-- ==== Sys2Proof/Word.lean ====
section
/-! DEFINITION. The word type of the ports, the operand types, and the names of ports and agents (R6, R9, R45, R55, R56). -/

namespace Sys2Proof

/-- Every stimulus, response and NOTIFY is one 64-bit word (R55). -/
abbrev Word := BitVec 64

/-- A callback token; 0 is the null callback (R8). -/
abbrev Token := BitVec 32

/-- A pin index, 0 to 31, all valid (R41). -/
abbrev Pin := BitVec 5

/-- A software-timer handle, the `idx` field (R41, R56). -/
abbrev Handle := BitVec 8

/-- The two input ports (R11, R55): commands come from the host only, events from the environment only. -/
inductive Port where
  | command
  | event
deriving DecidableEq, Repr

/-- The five agents that produce stimuli (R45). -/
inductive Agent where
  | host
  | counterTickSource
  | timerTickSource
  | gpioPeripheral
  | platform
deriving DecidableEq, Repr

/-- The port an agent's words arrive on (R55). -/
def Agent.port : Agent → Port
  | .host => .command
  | .counterTickSource => .event
  | .timerTickSource => .event
  | .gpioPeripheral => .event
  | .platform => .event

/-- One stimulus: a word as it arrives on one of the two ports (R9, R11). -/
structure Stimulus where
  port : Port
  word : Word
deriving DecidableEq, Repr

/-- The pin direction `mode ∈ {Input, Output}` (R20). -/
inductive PinMode where
  | input
  | output
deriving DecidableEq, Repr

/-- The pull setting `pull ∈ {None, PullUp, PullDown}`; code 3 is illegal and never stored (R20, R61). DEDUCED: a type with
three values says both at once. Safe (log 11). -/
inductive Pull where
  | none
  | pullUp
  | pullDown
deriving DecidableEq, Repr

/-- An edge mode or a polarity: None, Rising, Falling, Both (R56, R60). -/
inductive Edge where
  | none
  | rising
  | falling
  | both
deriving DecidableEq, Repr

/-- Why a word is not a stimulus (R61, R62, R69): the tests of the decode procedure, in their order. -/
inductive Reject where
  | unassignedOpcode  -- no row of the table has this opcode for this port
  | reservedBit       -- a bit outside the format's fields is 1
  | pullCode          -- GP_CFG with pull = 3
  | edgeCode          -- GP_ARM with edge = 0, or EV_PINIRQ with edge 0 or 3
deriving DecidableEq, Repr

end Sys2Proof
end

