-- ==== Sys2Proof/Syntax.lean ====
section
/-! DEFINITION. The 22 host commands and 6 environment events, one constructor per row of spec/opcode_table.json (R58). -/

namespace Sys2Proof

/-- A decoded stimulus. Operands are the unsigned field values of R56, in the order of R58's operand column. -/
inductive Instr where
  | ctrInit
  | ctrRead
  | ctrMax
  | ctrSetcmp (targetTicks : BitVec 32) (enableIrq : Bool)
  | ctrTestovf
  | clkGet
  | clkUpdate (newBase : BitVec 32)
  | wkSched (timeoutSeconds : BitVec 32)
  | wkSetcb (callback : Token)
  | tmrCreate (callback : Token)
  | tmrSetto (handle : Handle) (ms : BitVec 32)
  | tmrStart (handle : Handle)
  | tmrStop (handle : Handle)
  | tmrNow
  | tmrElapsed (saved : BitVec 32)
  | gpCfg (pin : Pin) (mode : PinMode) (pull : Pull) (initialValue : Bool)
  | gpArm (pin : Pin) (edgeMode : Edge) (priority : BitVec 3) (handler : Token)
  | gpDisarm (pin : Pin)
  | gpWrite (pin : Pin) (value : Bool)
  | gpToggle (pin : Pin)
  | gpRead (pin : Pin)
  | gpDeinit (pin : Pin)
  | evTick
  | evTmrtick
  | evPinirq (pin : Pin) (polarity : Edge)
  | evPinlvl (pin : Pin) (level : Bool)
  | evHwok (ok : Bool)
  | evReset
deriving DecidableEq, Repr

end Sys2Proof
end

