-- ==== Sys2Proof/WellFormed.lean ====
section
/-! DEFINITION. Which instructions some legal word stands for: the constraints of the opcode table that the operand types do
not already say (R61, R62). -/

namespace Sys2Proof

/-- `GP_ARM` takes the edge modes 1, 2 and 3; `EV_PINIRQ` takes the polarities 1 and 2 (R60, R61 (d), R62). The constraint
`pull ≠ 3` of `GP_CFG` (R61 (c)) is in the type `Pull` (log 11). -/
def Instr.wellFormed : Instr → Bool
  | .gpArm _ edgeMode _ _ => edgeMode != .none
  | .evPinirq _ polarity => polarity == .rising || polarity == .falling
  | .ctrInit => true
  | .ctrRead => true
  | .ctrMax => true
  | .ctrSetcmp _ _ => true
  | .ctrTestovf => true
  | .clkGet => true
  | .clkUpdate _ => true
  | .wkSched _ => true
  | .wkSetcb _ => true
  | .tmrCreate _ => true
  | .tmrSetto _ _ => true
  | .tmrStart _ => true
  | .tmrStop _ => true
  | .tmrNow => true
  | .tmrElapsed _ => true
  | .gpCfg _ _ _ _ => true
  | .gpDisarm _ => true
  | .gpWrite _ _ => true
  | .gpToggle _ => true
  | .gpRead _ => true
  | .gpDeinit _ => true
  | .evTick => true
  | .evTmrtick => true
  | .evPinlvl _ _ => true
  | .evHwok _ => true
  | .evReset => true

end Sys2Proof
end

