-- ==== Sys2Proof/Decode.lean ====
section
/-! DEFINITION. The decoder and the encoder of stimulus words (R55 to R58, R60 to R62, R69), and the reading of a word of
spec/opcode_table.json. -/

namespace Sys2Proof

/-! ## Codes of the enumerated fields (R20, R56) -/

def PinMode.code : PinMode → Bool
  | .input => false
  | .output => true

def PinMode.ofCode : Bool → PinMode
  | false => .input
  | true => .output

def Pull.code : Pull → BitVec 2
  | .none => 0
  | .pullUp => 1
  | .pullDown => 2

/-- Code 3 is illegal (R56, R61 (c)). -/
def Pull.ofCode (c : BitVec 2) : Option Pull :=
  if c = 0 then some .none
  else if c = 1 then some .pullUp
  else if c = 2 then some .pullDown
  else Option.none

def Edge.code : Edge → BitVec 2
  | .none => 0
  | .rising => 1
  | .falling => 2
  | .both => 3

def Edge.ofCode (c : BitVec 2) : Edge :=
  if c = 0 then .none
  else if c = 1 then .rising
  else if c = 2 then .falling
  else .both

/-! ## Formats and opcodes (R57, R58) -/

/-- The eleven formats (R57). -/
inductive Format where
  | Z | D | C | H | HD | P | PC | PW | PA | EP | F
deriving DecidableEq, Repr

/-- The bits that must equal the match value: opcode and reserved bits (R57). -/
def Format.mask : Format → Word
  | .Z  => 0xFFFFFFFFFFFFFFFF
  | .D  => 0xFFFFFFFF00000000
  | .C  => 0xFFFFFEFF00000000
  | .H  => 0xFFFFFF00FFFFFFFF
  | .HD => 0xFFFFFF0000000000
  | .P  => 0xFFFFFFE0FFFFFFFF
  | .PC => 0xFFFFFE00FFFFFFFF
  | .PW => 0xFFFFFEE0FFFFFFFF
  | .PA => 0xFFF8F9E000000000
  | .EP => 0xFFFFF9E0FFFFFFFF
  | .F  => 0xFFFFFEFFFFFFFFFF

/-- The 28 rows of the opcode map (R58). -/
inductive Op where
  | ctrInit | ctrRead | ctrMax | ctrSetcmp | ctrTestovf
  | clkGet | clkUpdate
  | wkSched | wkSetcb
  | tmrCreate | tmrSetto | tmrStart | tmrStop | tmrNow | tmrElapsed
  | gpCfg | gpArm | gpDisarm | gpWrite | gpToggle | gpRead | gpDeinit
  | evTick | evTmrtick | evPinirq | evPinlvl | evHwok | evReset
deriving DecidableEq, Repr

def Op.all : List Op :=
  [.ctrInit, .ctrRead, .ctrMax, .ctrSetcmp, .ctrTestovf, .clkGet, .clkUpdate, .wkSched, .wkSetcb,
   .tmrCreate, .tmrSetto, .tmrStart, .tmrStop, .tmrNow, .tmrElapsed,
   .gpCfg, .gpArm, .gpDisarm, .gpWrite, .gpToggle, .gpRead, .gpDeinit,
   .evTick, .evTmrtick, .evPinirq, .evPinlvl, .evHwok, .evReset]

/-- The opcode column of R58. -/
def Op.code : Op → BitVec 8
  | .ctrInit => 0x10
  | .ctrRead => 0x11
  | .ctrMax => 0x12
  | .ctrSetcmp => 0x13
  | .ctrTestovf => 0x14
  | .clkGet => 0x20
  | .clkUpdate => 0x21
  | .wkSched => 0x30
  | .wkSetcb => 0x31
  | .tmrCreate => 0x40
  | .tmrSetto => 0x41
  | .tmrStart => 0x42
  | .tmrStop => 0x43
  | .tmrNow => 0x44
  | .tmrElapsed => 0x45
  | .gpCfg => 0x50
  | .gpArm => 0x51
  | .gpDisarm => 0x52
  | .gpWrite => 0x53
  | .gpToggle => 0x54
  | .gpRead => 0x55
  | .gpDeinit => 0x56
  | .evTick => 0xE0
  | .evTmrtick => 0xE1
  | .evPinirq => 0xE2
  | .evPinlvl => 0xE3
  | .evHwok => 0xE4
  | .evReset => 0xEF

/-- The format column of R58. -/
def Op.format : Op → Format
  | .ctrSetcmp => .C
  | .clkUpdate => .D
  | .wkSched => .D
  | .wkSetcb => .D
  | .tmrCreate => .D
  | .tmrElapsed => .D
  | .tmrSetto => .HD
  | .tmrStart => .H
  | .tmrStop => .H
  | .gpCfg => .PC
  | .gpArm => .PA
  | .gpDisarm => .P
  | .gpWrite => .PW
  | .gpToggle => .P
  | .gpRead => .P
  | .gpDeinit => .P
  | .evPinirq => .EP
  | .evPinlvl => .PW
  | .evHwok => .F
  | .ctrInit => .Z
  | .ctrRead => .Z
  | .ctrMax => .Z
  | .ctrTestovf => .Z
  | .clkGet => .Z
  | .tmrNow => .Z
  | .evTick => .Z
  | .evTmrtick => .Z
  | .evReset => .Z

/-- The agent that produces the stimulus (R45, R156 to R162). -/
def Op.agent : Op → Agent
  | .evTick => .counterTickSource
  | .evTmrtick => .timerTickSource
  | .evPinirq => .gpioPeripheral
  | .evPinlvl => .gpioPeripheral
  | .evHwok => .platform
  | .evReset => .platform
  | .ctrInit => .host
  | .ctrRead => .host
  | .ctrMax => .host
  | .ctrSetcmp => .host
  | .ctrTestovf => .host
  | .clkGet => .host
  | .clkUpdate => .host
  | .wkSched => .host
  | .wkSetcb => .host
  | .tmrCreate => .host
  | .tmrSetto => .host
  | .tmrStart => .host
  | .tmrStop => .host
  | .tmrNow => .host
  | .tmrElapsed => .host
  | .gpCfg => .host
  | .gpArm => .host
  | .gpDisarm => .host
  | .gpWrite => .host
  | .gpToggle => .host
  | .gpRead => .host
  | .gpDeinit => .host

/-- The port a row's words arrive on (R55). -/
def Op.port (o : Op) : Port := o.agent.port

/-- The match value `op << 56` (R57). -/
def Op.matchWord (o : Op) : Word := o.code ++ 0#56

/-- The row with this opcode among those of this port (R69). -/
def Op.ofCode (p : Port) (c : BitVec 8) : Option Op :=
  Op.all.find? fun o => o.code == c && o.port == p

/-- The row an instruction belongs to. -/
def Instr.op : Instr → Op
  | .ctrInit => .ctrInit
  | .ctrRead => .ctrRead
  | .ctrMax => .ctrMax
  | .ctrSetcmp _ _ => .ctrSetcmp
  | .ctrTestovf => .ctrTestovf
  | .clkGet => .clkGet
  | .clkUpdate _ => .clkUpdate
  | .wkSched _ => .wkSched
  | .wkSetcb _ => .wkSetcb
  | .tmrCreate _ => .tmrCreate
  | .tmrSetto _ _ => .tmrSetto
  | .tmrStart _ => .tmrStart
  | .tmrStop _ => .tmrStop
  | .tmrNow => .tmrNow
  | .tmrElapsed _ => .tmrElapsed
  | .gpCfg _ _ _ _ => .gpCfg
  | .gpArm _ _ _ _ => .gpArm
  | .gpDisarm _ => .gpDisarm
  | .gpWrite _ _ => .gpWrite
  | .gpToggle _ => .gpToggle
  | .gpRead _ => .gpRead
  | .gpDeinit _ => .gpDeinit
  | .evTick => .evTick
  | .evTmrtick => .evTmrtick
  | .evPinirq _ _ => .evPinirq
  | .evPinlvl _ _ => .evPinlvl
  | .evHwok _ => .evHwok
  | .evReset => .evReset

/-- The port an instruction's words arrive on (R55). -/
def Instr.port (i : Instr) : Port := i.op.port

/-! ## Field extraction (R56) -/

def fieldOp (w : Word) : BitVec 8 := w.extractLsb' 56 8
def fieldPrio (w : Word) : BitVec 3 := w.extractLsb' 48 3
def fieldEdge (w : Word) : Edge := Edge.ofCode (w.extractLsb' 41 2)
def fieldFlag (w : Word) : Bool := w.getLsbD 40
def fieldPull (w : Word) : Option Pull := Pull.ofCode (w.extractLsb' 38 2)
def fieldMode (w : Word) : PinMode := PinMode.ofCode (w.getLsbD 37)
def fieldPin (w : Word) : Pin := w.extractLsb' 32 5
def fieldIdx (w : Word) : Handle := w.extractLsb' 32 8
def fieldData (w : Word) : BitVec 32 := w.extractLsb' 0 32

/-! ## The decode procedure (R69) -/

/-- Extract the row's fields and test its constraint (R56, R61 (c) and (d), R62). -/
def Op.assemble (o : Op) (w : Word) : Except Reject Instr :=
  match o with
  | .ctrInit => .ok .ctrInit
  | .ctrRead => .ok .ctrRead
  | .ctrMax => .ok .ctrMax
  | .ctrSetcmp => .ok (.ctrSetcmp (fieldData w) (fieldFlag w))
  | .ctrTestovf => .ok .ctrTestovf
  | .clkGet => .ok .clkGet
  | .clkUpdate => .ok (.clkUpdate (fieldData w))
  | .wkSched => .ok (.wkSched (fieldData w))
  | .wkSetcb => .ok (.wkSetcb (fieldData w))
  | .tmrCreate => .ok (.tmrCreate (fieldData w))
  | .tmrSetto => .ok (.tmrSetto (fieldIdx w) (fieldData w))
  | .tmrStart => .ok (.tmrStart (fieldIdx w))
  | .tmrStop => .ok (.tmrStop (fieldIdx w))
  | .tmrNow => .ok .tmrNow
  | .tmrElapsed => .ok (.tmrElapsed (fieldData w))
  | .gpCfg =>
    match fieldPull w with
    | some pull => .ok (.gpCfg (fieldPin w) (fieldMode w) pull (fieldFlag w))
    | none => .error .pullCode
  | .gpArm =>
    if fieldEdge w = .none then .error .edgeCode
    else .ok (.gpArm (fieldPin w) (fieldEdge w) (fieldPrio w) (fieldData w))
  | .gpDisarm => .ok (.gpDisarm (fieldPin w))
  | .gpWrite => .ok (.gpWrite (fieldPin w) (fieldFlag w))
  | .gpToggle => .ok (.gpToggle (fieldPin w))
  | .gpRead => .ok (.gpRead (fieldPin w))
  | .gpDeinit => .ok (.gpDeinit (fieldPin w))
  | .evTick => .ok .evTick
  | .evTmrtick => .ok .evTmrtick
  | .evPinirq =>
    if fieldEdge w = .rising ∨ fieldEdge w = .falling then .ok (.evPinirq (fieldPin w) (fieldEdge w))
    else .error .edgeCode
  | .evPinlvl => .ok (.evPinlvl (fieldPin w) (fieldFlag w))
  | .evHwok => .ok (.evHwok (fieldFlag w))
  | .evReset => .ok .evReset

/-- R69 on one port: the row, then the mask, then the constraint, then the fields. -/
def decodeWord (p : Port) (w : Word) : Except Reject Instr :=
  match Op.ofCode p (fieldOp w) with
  | none => .error .unassignedOpcode
  | some o => if w &&& o.format.mask = o.matchWord then o.assemble w else .error .reservedBit

/-- What a word on a port is: "every 64-bit word is exactly one of a decoded stimulus, illegal, or refused" (R69). -/
inductive Decoded where
  | stimulus (i : Instr)
  | illegal (why : Reject)
  | refused (why : Reject)
deriving DecidableEq, Repr

/-- The decoder: a word that is no command is illegal (R61), a word that is no event is refused (R62). -/
def decode (p : Port) (w : Word) : Decoded :=
  match decodeWord p w with
  | .ok i => .stimulus i
  | .error why =>
    match p with
    | .command => .illegal why
    | .event => .refused why

/-! ## The encoder (R56, R58) -/

/-- The fields at their positions, reserved bits 0 (R56); `low` is bits 39:32, which hold `idx`, or `pull`, `mode`, `pin`. -/
def layout (op : BitVec 8) (prio : BitVec 3) (edge : BitVec 2) (flag : Bool) (low : BitVec 8) (data : BitVec 32) : Word :=
  op ++ 0#5 ++ prio ++ 0#5 ++ edge ++ BitVec.ofBool flag ++ low ++ data

/-- Bits 39:32 as `pull`, `mode`, `pin` (R56). -/
def pinBits (pull : BitVec 2) (mode : Bool) (pin : Pin) : BitVec 8 := pull ++ BitVec.ofBool mode ++ pin

/-- The word of an instruction: its opcode and its operands at the positions of R56, everything else 0. -/
def encode : Instr → Word
  | .ctrInit => layout 0x10 0 0 false 0 0
  | .ctrRead => layout 0x11 0 0 false 0 0
  | .ctrMax => layout 0x12 0 0 false 0 0
  | .ctrSetcmp targetTicks enableIrq => layout 0x13 0 0 enableIrq 0 targetTicks
  | .ctrTestovf => layout 0x14 0 0 false 0 0
  | .clkGet => layout 0x20 0 0 false 0 0
  | .clkUpdate newBase => layout 0x21 0 0 false 0 newBase
  | .wkSched timeoutSeconds => layout 0x30 0 0 false 0 timeoutSeconds
  | .wkSetcb callback => layout 0x31 0 0 false 0 callback
  | .tmrCreate callback => layout 0x40 0 0 false 0 callback
  | .tmrSetto handle ms => layout 0x41 0 0 false handle ms
  | .tmrStart handle => layout 0x42 0 0 false handle 0
  | .tmrStop handle => layout 0x43 0 0 false handle 0
  | .tmrNow => layout 0x44 0 0 false 0 0
  | .tmrElapsed saved => layout 0x45 0 0 false 0 saved
  | .gpCfg pin mode pull initialValue => layout 0x50 0 0 initialValue (pinBits pull.code mode.code pin) 0
  | .gpArm pin edgeMode priority handler => layout 0x51 priority edgeMode.code false (pinBits 0 false pin) handler
  | .gpDisarm pin => layout 0x52 0 0 false (pinBits 0 false pin) 0
  | .gpWrite pin value => layout 0x53 0 0 value (pinBits 0 false pin) 0
  | .gpToggle pin => layout 0x54 0 0 false (pinBits 0 false pin) 0
  | .gpRead pin => layout 0x55 0 0 false (pinBits 0 false pin) 0
  | .gpDeinit pin => layout 0x56 0 0 false (pinBits 0 false pin) 0
  | .evTick => layout 0xE0 0 0 false 0 0
  | .evTmrtick => layout 0xE1 0 0 false 0 0
  | .evPinirq pin polarity => layout 0xE2 0 polarity.code false (pinBits 0 false pin) 0
  | .evPinlvl pin level => layout 0xE3 0 0 level (pinBits 0 false pin) 0
  | .evHwok ok => layout 0xE4 0 0 ok 0 0
  | .evReset => layout 0xEF 0 0 false 0 0

/-! ## Words of the opcode table -/

/-- An instruction of spec/opcode_table.json as one word: the table gives every row all 64 bits, bits above `nbits` are 0. -/
def tableWord (nbits w : Nat) : Word := BitVec.ofNat 64 (w % 2 ^ nbits)

/-- The port a table word is presented on: an event port iff its unit nibble is 0xE (R55). DESIGN CHOICE, safe (log 17). -/
def portOfWord (w : Word) : Port := if w.extractLsb' 60 4 = 0xE#4 then .event else .command

/-- The stimulus a table word stands for, on the port its opcode belongs to. -/
def tableStimulus (nbits w : Nat) : Stimulus := ⟨portOfWord (tableWord nbits w), tableWord nbits w⟩

/-- The instruction the decoder reads from a word of the opcode table, none where it rejects the word. -/
def decodeTableWord (nbits w : Nat) : Option Instr :=
  match decodeWord (tableStimulus nbits w).port (tableStimulus nbits w).word with
  | .ok i => some i
  | .error _ => none

end Sys2Proof
end

