-- ==== Sys2Proof/Config.lean ====
section
/-! DEFINITION. The implementation parameters of R4, their reference values, and the values the spec leaves free
(R4, R23, V1, V2). -/

namespace Sys2Proof

/-- The free conversions a platform may use for `MS_TO_TICKS` (R4: OPEN, "depends on its argument and `F_TMR` alone"): the
`k`-th platform's tick count for `ms` milliseconds at `F_TMR = fTmr`. No body: nothing can be proved of its values but that
they fit 48 bits, which R95 (h) states. DESIGN CHOICE, safe (log 2). -/
opaque Config.platformTicks (k : Nat) (ms : BitVec 32) (fTmr : Nat) : BitVec 48

/-- `HW_OK` at power-up, "a free input (a draw)" (R23, V1). No body. DESIGN CHOICE, safe (log 6). -/
opaque Config.hwOkAtPowerUp : Bool

/-- `PIN_IN[p]` at power-up, "a free input (a draw)" (R23, V2). No body. DESIGN CHOICE, safe (log 7). -/
opaque Config.pinInAtPowerUp (p : Nat) : Bool

/-- The choice of `MS_TO_TICKS` (R4): the default formula, or the conversion of some platform, of which nothing is known. -/
inductive TickConversion where
  | rounded
  | platform (k : Nat)
deriving DecidableEq, Repr

/-- The parameters of R4 with their constraints. `TS_W`, `N_PINS`, `TMR_FLOOR_MS` and `PRIO_BITS` are fixed and stand as
literals where they are used; `PRESCALER` is informative and read by no rule. `minTicks_lt` is DEDUCED: `remaining` holds
`MIN_TICKS` and is 48 bits wide (R18, R112); unsafe (log 3). -/
structure Config where
  w : Nat
  f : Nat
  nTimers : Nat
  fTmr : Nat
  minTicks : Nat
  conversion : TickConversion
  testOvfPreload : Nat
  gpioEnvFiltered : Bool
  w_ge : 4 ≤ w
  w_le : w ≤ 32
  f_pos : 1 ≤ f
  nTimers_pos : 1 ≤ nTimers
  nTimers_le : nTimers ≤ 256
  fTmr_pos : 1 ≤ fTmr
  fTmr_lt : fTmr < 2 ^ 16
  minTicks_pos : 1 ≤ minTicks
  minTicks_lt : minTicks < 2 ^ 48
  testOvfPreload_le : testOvfPreload ≤ 2 ^ w - 1
deriving DecidableEq, Repr

/-- The reference and default values of R4 (log 15; the defaults of `F_TMR`, `MIN_TICKS`, `MS_TO_TICKS` and
`TESTOVF_PRELOAD` are the spec's own passages from general knowledge, K1 to K4). -/
def Config.reference : Config where
  w := 24
  f := 8
  nTimers := 8
  fTmr := 32768
  minTicks := 5
  conversion := .rounded
  testOvfPreload := 2 ^ 24 - 1 - 15
  gpioEnvFiltered := false
  w_ge := by decide
  w_le := by decide
  f_pos := by decide
  nTimers_pos := by decide
  nTimers_le := by decide
  fTmr_pos := by decide
  fTmr_lt := by decide
  minTicks_pos := by decide
  minTicks_lt := by decide
  testOvfPreload_le := by decide

end Sys2Proof
end

