-- ==== Sys2Proof/Machine/State.lean ====
section
/-! DEFINITION. The state of the block (R10 to R23), the outcomes it can name, and the state after reset (R26, R180). -/

namespace Sys2Proof.Machine

/-- The status codes of a response (R150). -/
inductive Status where
  | ok
  | eState
  | eNores
  | eParam
  | eIllegal
deriving DecidableEq, Repr

/-- The sources of a notification (R64); code 0 is never produced. -/
inductive NotifyKind where
  | wakeup
  | timer
  | gpio
deriving DecidableEq, Repr

/-- One word the block has driven: a response (R63) or a NOTIFY (R64). -/
inductive Output where
  | response (w : Word)
  | notification (w : Word)
deriving DecidableEq, Repr

/-- `T[h].state ∈ {Idle, Armed}` (R18). -/
inductive TimerState where
  | idle
  | armed
deriving DecidableEq, Repr

/-- A software-timer slot `T[h]` (R18). -/
structure TimerSlot where
  created : Bool
  cb : Token
  timeoutMs : BitVec 32
  state : TimerState
  remaining : BitVec 48
deriving DecidableEq, Repr

/-- A slot at its reset value: free, every field 0 (R18, R26). -/
def TimerSlot.free : TimerSlot where
  created := false
  cb := 0
  timeoutMs := 0
  state := .idle
  remaining := 0

/-- A pin record `P[p]` (R20). -/
structure PinRecord where
  initialized : Bool
  mode : PinMode
  pull : Pull
  senseToggle : Bool
  irqMode : Edge
  evtEn : Bool
  prio : BitVec 3
  outLevel : Bool
deriving DecidableEq, Repr

/-- A pin record at its reset value: Unconfigured, every field 0 (R20, R21, R26). -/
def PinRecord.unconfigured : PinRecord where
  initialized := false
  mode := .input
  pull := .none
  senseToggle := false
  irqMode := .none
  evtEn := false
  prio := 0
  outLevel := false

/-- The state: the elements of R14 to R23, and three fields of the model's own: the parameters `cfg` (R4; log 1), the stimuli
not yet executed `input` (R11, R45; log 4), and the words produced so far `out` (R27, R195; log 8). `counter` and `compare` are
the W-bit registers in 32 bits (W ≤ 32; log 10); `timers` holds `T[0]` to `T[N_TIMERS - 1]` (log 13); `pinIn` is `PIN_IN`, one
bit per pin (log 7). -/
structure State where
  cfg : Config
  ctrRun : Bool
  counter : BitVec 32
  compare : BitVec 32
  cmpArmed : Bool
  tsBase : BitVec 32
  wkCb : Token
  timers : List TimerSlot
  pins : Vector PinRecord 32
  handlers : Vector Token 32
  hwOk : Bool
  pinIn : Vector Bool 32
  input : List Stimulus
  out : List Output
deriving DecidableEq, Repr

/-- The block never stops with a fault: "No error class in this core is treated as immediately fatal" (R151), and it has no
halted or faulted state (R195). So this type has no constructor. DEDUCED, safe (log 14). -/
inductive Fault where
deriving DecidableEq, Repr

/-- Why there is no step. -/
inductive Refusal where
  /-- Raised by an arm of `exec` that has no meaning yet; safe: the model stops where the hardware goes on. -/
  | notModelled (mnemonic : String)
  /-- Raised by `step` when no stimulus is left: a step is the execution of one stimulus (R9), and "a run ends only because its
  stimulus list ends" (R195). Safe (log 5). -/
  | noStimulus
  /-- Raised by `step` and by `EV_PINIRQ` for a word on an event port that is no event: "A model refuses such a stimulus (it has
  no step)" (R62). Safe: the environment cannot produce it (log 9). -/
  | malformedEvent (why : Reject)
  /-- Raised by `EV_PINIRQ` when `GPIO_ENV_FILTERED` is true and the pin's event is disabled or the edge does not match: such
  an event "has no step" (R159). Safe: the environment does not produce it (log 9). -/
  | filteredEvent
deriving DecidableEq, Repr

/-- The state right after power-up (R26, R180), for given parameters and given draws of `HW_OK` and `PIN_IN` (R23, R195, V1, V2):
every element at its reset value, no stimulus waiting and no word produced. -/
def State.powerUp (c : Config) (hwOk : Bool) (pinIn : Vector Bool 32) : State where
  cfg := c
  ctrRun := false
  counter := 0
  compare := 0
  cmpArmed := false
  tsBase := 0
  wkCb := 0
  timers := List.replicate c.nTimers TimerSlot.free
  pins := Vector.replicate 32 PinRecord.unconfigured
  handlers := Vector.replicate 32 0
  hwOk := hwOk
  pinIn := pinIn
  input := []
  out := []

/-- The state right after power-up with the reference parameters (log 1, log 15) and `HW_OK` and `PIN_IN` drawn freely (R23, V1,
V2; log 6, log 7). -/
def State.reset : State :=
  State.powerUp Config.reference Config.hwOkAtPowerUp (Vector.ofFn fun p => Config.pinInAtPowerUp p.val)

end Sys2Proof.Machine
end

