-- ==== Sys2Proof/Machine/Operands.lean ====
section
/-! DEFINITION. The derived constants of the parameters (R5), operand assembly (R60), and the integer arithmetic of the block
(R6, R90, R95, R100, R112, R115). -/

namespace Sys2Proof.Machine

/-- `MAX_TICKS = 2^W - 1` (R5). -/
def maxTicks (c : Config) : Nat := 2 ^ c.w - 1

/-- `OVF_INC = MAX_TICKS div F` (R5). -/
def ovfInc (c : Config) : Nat := maxTicks c / c.f

/-- `v mod 2^W`, in the 32 bits a W-bit register is held in (R6, R83, R100). -/
def truncW (c : Config) (v : Nat) : BitVec 32 := BitVec.ofNat 32 (v % 2 ^ c.w)

/-- `ts() = (TS_BASE + (COUNTER div F)) mod 2^32` (R7, R90). -/
def ts (s : State) : BitVec 32 := BitVec.ofNat 32 (s.tsBase.toNat + s.counter.toNat / s.cfg.f)

/-- `TS_BASE + OVF_INC`, modulo `2^32` (R95 (b), R156). -/
def accumulate (c : Config) (base : BitVec 32) : BitVec 32 := BitVec.ofNat 32 (base.toNat + ovfInc c)

/-- `delta = timeout_seconds * F`, unbounded (R95 (e), R100 step 2). -/
def wakeDelta (c : Config) (timeoutSeconds : BitVec 32) : Nat := timeoutSeconds.toNat * c.f

/-- The compare target of R100 step 3, as the document writes it: across the wrap it is `(MAX_TICKS - t) + delta` and not
`(t + delta) mod 2^W` (R103, C4). -/
def wakeTarget (c : Config) (t delta : Nat) : Nat :=
  if maxTicks c < t + delta then (maxTicks c - t) + delta else t + delta

/-- `TMR_FLOOR_MS` (R4, R111): a value below 10 ms becomes 10 ms. -/
def clampTimeout (ms : BitVec 32) : BitVec 32 := if ms.toNat < 10 then 10 else ms

/-- `MS_TO_TICKS` (R4): the default formula, or the platform's own conversion (log 2). -/
def msToTicks (c : Config) (ms : BitVec 32) : Nat :=
  match c.conversion with
  | .rounded => (ms.toNat * c.fTmr + 500) / 1000
  | .platform k => (Config.platformTicks k ms c.fTmr).toNat

/-- The countdown `TMR_START` loads: the converted timeout, raised to `MIN_TICKS` (R112). -/
def startTicks (c : Config) (ms : BitVec 32) : Nat :=
  if msToTicks c ms < c.minTicks then c.minTicks else msToTicks c ms

/-- `now - saved` if `saved < now`, else 0, unsigned (R95 (f), R115). -/
def elapsedSince (now saved : BitVec 32) : BitVec 32 := if saved.toNat < now.toNat then now - saved else 0

/-- "polarity `e` matches edge mode `m`" is `(m AND e) ≠ 0` bitwise (R60). -/
def edgeMatches (m e : Edge) : Bool := m.code &&& e.code != 0

/-- A one-bit value in the low bits of `RESP.data`, the upper bits 0 (R54). -/
def zext32 (b : Bool) : BitVec 32 := BitVec.setWidth 32 (BitVec.ofBool b)

end Sys2Proof.Machine
end

