-- ==== Sys2Proof/Machine/Ops.lean ====
section
/-! DEFINITION. The named operations: the response (R63, R150), the error (`raise`, R7), the notification (R64, R158), the
indexed files (R41, R54), the counter's tick (R156), the timer service's tick (R157), reset (R180), and the arrival of a
stimulus (R11, R45). -/

namespace Sys2Proof.Machine

/-! ## Responses and errors -/

/-- The status codes of R150. -/
def Status.code : Status → BitVec 8
  | .ok => 0
  | .eState => 1
  | .eNores => 2
  | .eParam => 3
  | .eIllegal => 4

/-- The response word: bits 39:32 the status, bits 31:0 the data, bits 63:40 zero (R63). -/
def responseWord (st : Status) (data : BitVec 32) : Word := 0#24 ++ st.code ++ data

/-- `respond(status, data)`: drive the response word of this command (R7, R63). -/
def respond (st : Status) (data : BitVec 32) (s : State) : State :=
  { s with out := s.out ++ [.response (responseWord st data)] }

/-- `raise E_x`: respond with the status and data 0; no state element has been written (R7, R151). This is the block's
synchronous exception. -/
def raise (e : Status) (s : State) : State := respond e 0 s

/-! ## Notifications -/

/-- The kind codes of R64. -/
def NotifyKind.code : NotifyKind → BitVec 2
  | .wakeup => 1
  | .timer => 2
  | .gpio => 3

/-- The NOTIFY word: 0xF0, zeros, kind, index, token (R64). -/
def notifyWord (kind : NotifyKind) (index : BitVec 8) (token : Token) : Word :=
  0xF0#8 ++ 0#14 ++ kind.code ++ index ++ token

/-- The word a source with this token produces: none for the null token (R8, R158, R166). -/
def notices (kind : NotifyKind) (index : BitVec 8) (token : Token) : List Output :=
  if token = 0 then [] else [.notification (notifyWord kind index token)]

/-- `if token ≠ 0 then notify(kind, index, token)`: the block's trap entry. It saves nothing and changes no state element
(R158, R164); there is no return from it (R165). -/
def notify (kind : NotifyKind) (index : BitVec 8) (token : Token) (s : State) : State :=
  { s with out := s.out ++ notices kind index token }

/-! ## The indexed files -/

/-- `P[p]` (R20). -/
def pin (s : State) (p : Pin) : PinRecord := s.pins.get p.toFin

/-- `P[p] <- r` (R20). -/
def setPin (s : State) (p : Pin) (r : PinRecord) : State := { s with pins := s.pins.set p.toNat r p.isLt }

/-- `HANDLER[p]` (R22). -/
def handler (s : State) (p : Pin) : Token := s.handlers.get p.toFin

/-- `HANDLER[p] <- t` (R22). -/
def setHandler (s : State) (p : Pin) (t : Token) : State := { s with handlers := s.handlers.set p.toNat t p.isLt }

/-- `PIN_IN[p]` (R23). -/
def level (s : State) (p : Pin) : Bool := s.pinIn.get p.toFin

/-- `PIN_IN[p] <- b` (R23). -/
def setLevel (s : State) (p : Pin) (b : Bool) : State := { s with pinIn := s.pinIn.set p.toNat b p.isLt }

/-- `T[h]` (R18); a free slot where the pool has none (log 13). -/
def slot (s : State) (h : Handle) : TimerSlot := s.timers.getD h.toNat TimerSlot.free

/-- `T[h] <- t` (R18). -/
def setSlot (s : State) (h : Nat) (t : TimerSlot) : State := { s with timers := s.timers.set h t }

/-- The least index with `T[h].created = 0`, none when all `N_TIMERS` slots are created (R110). -/
def freeSlot (s : State) : Option Nat := (s.timers.take s.cfg.nTimers).findIdx? fun t => !t.created

/-! ## Ticks -/

/-- The first half of R156: the counter wraps and the base accumulates, or the counter grows by one. -/
def advanceCounter (s : State) : State :=
  if s.counter.toNat = maxTicks s.cfg then { s with counter := 0, tsBase := accumulate s.cfg s.tsBase }
  else { s with counter := s.counter + 1 }

/-- The second half of R156: the one-shot compare match on the new count. -/
def compareMatch (s : State) : State :=
  if s.cmpArmed = true ∧ s.counter = s.compare then notify .wakeup 0 s.wkCb { s with cmpArmed := false } else s

/-- One timer tick on one slot: an Armed slot counts down and becomes Idle at 0 (R157). -/
def tickSlot (t : TimerSlot) : TimerSlot :=
  if t.created = true ∧ t.state = .armed then
    if t.remaining - 1 = 0 then { t with remaining := t.remaining - 1, state := .idle }
    else { t with remaining := t.remaining - 1 }
  else t

/-- What one timer tick on slot `h` notifies: the callback of a timer that expires (R157). -/
def slotNotices (h : Nat) (t : TimerSlot) : List Output :=
  if t.created = true ∧ t.state = .armed ∧ t.remaining - 1 = 0 then notices .timer (BitVec.ofNat 8 h) t.cb else []

/-- The loop of R157 from slot `h` on, ascending: the slots after the tick and the words in the order they are produced. -/
def tickSlots (h : Nat) : List TimerSlot → List TimerSlot × List Output
  | [] => ([], [])
  | t :: rest => (tickSlot t :: (tickSlots (h + 1) rest).1, slotNotices h t ++ (tickSlots (h + 1) rest).2)

/-- One tick of the platform timer service (R157). -/
def tickTimers (s : State) : State :=
  { s with timers := (tickSlots 0 s.timers).1, out := s.out ++ (tickSlots 0 s.timers).2 }

/-! ## Reset -/

/-- The reset step of R180: every element takes its reset value, `HW_OK` and `PIN_IN` are not written; the parameters, the
stimuli still to come and the words already produced are no elements of the block and stay. -/
def resetBlock (s : State) : State :=
  { s with
    ctrRun := false
    counter := 0
    compare := 0
    cmpArmed := false
    tsBase := 0
    wkCb := 0
    timers := List.replicate s.cfg.nTimers TimerSlot.free
    pins := Vector.replicate 32 PinRecord.unconfigured
    handlers := Vector.replicate 32 0 }

/-! ## The arrival of a stimulus -/

/-- The next stimulus in arrival order and the state with it consumed (R11, R45). -/
def nextStimulus (s : State) : Option (Stimulus × State) :=
  match s.input with
  | [] => none
  | x :: rest => some (x, { s with input := rest })

/-- Present a stimulus ahead of those still waiting (log 4). -/
def presentFirst (x : Stimulus) (s : State) : State := { s with input := x :: s.input }

/-- An illegal command executes as `respond(E_ILLEGAL, 0)`, no state change, no notification (R61). -/
def answerIllegal (s : State) : State := raise .eIllegal s

end Sys2Proof.Machine
end

