-- ==== Sys2Proof/Machine/Flags.lean ====
section
/-! DEFINITION. The block has no flags and no condition codes (R13); what stands in their place are the one-bit conditions that
the commands and events test (R152, R153, R155). -/

namespace Sys2Proof.Machine

/-- `HW_OK = 0`, `CTR_RUN = 0` and the like are read off the state; a handle is valid iff `h < N_TIMERS` and
`T[h].created = 1` (R116). -/
def validHandle (s : State) (h : Handle) : Bool := decide (h.toNat < s.cfg.nTimers) && (slot s h).created

/-- `P[p].initialized = 1` and `P[p].mode = Input` (R127, R131). -/
def isInput (s : State) (p : Pin) : Bool := (pin s p).initialized && (pin s p).mode == .input

/-- `P[p].initialized = 1` and `P[p].mode = Output` (R129, R130). -/
def isOutput (s : State) (p : Pin) : Bool := (pin s p).initialized && (pin s p).mode == .output

/-- "Previously armed" is `irq_mode ≠ 0` (R127, D30). -/
def previouslyArmed (r : PinRecord) : Bool := r.irqMode != .none

/-- A wakeup longer than one counter period, `timeout_seconds * F > MAX_TICKS` (R100). -/
def wakeTooLong (c : Config) (timeoutSeconds : BitVec 32) : Bool := decide (maxTicks c < wakeDelta c timeoutSeconds)

/-- Whether the environment can produce `EV_PINIRQ p, e`: always when it does not filter, otherwise only for an enabled pin
and a matching edge (R159). -/
def envDelivers (s : State) (p : Pin) (e : Edge) : Bool :=
  !s.cfg.gpioEnvFiltered || ((pin s p).evtEn && edgeMatches (pin s p).irqMode e)

end Sys2Proof.Machine
end

