-- ==== Sys2Proof/Machine/CounterAdapter.lean ====
section
/-! DEFINITION. The counter adapter commands (R80 to R84). -/

namespace Sys2Proof.Machine

/-- `CTR_INIT` (R80). -/
def execCtrInit (s : State) : Host.Outcome State Fault Refusal :=
  .next (
    if s.ctrRun then raise .eState s
    else if !s.hwOk then raise .eNores s
    else respond .ok 0 { s with ctrRun := true, counter := 0, compare := 0, cmpArmed := false })

/-- `CTR_READ` (R81). -/
def execCtrRead (s : State) : Host.Outcome State Fault Refusal :=
  .next (respond .ok s.counter s)

/-- `CTR_MAX` (R82). -/
def execCtrMax (s : State) : Host.Outcome State Fault Refusal :=
  .next (respond .ok (BitVec.ofNat 32 (maxTicks s.cfg)) s)

/-- `CTR_SETCMP` (R83). -/
def execCtrSetcmp (targetTicks : BitVec 32) (enableIrq : Bool) (s : State) : Host.Outcome State Fault Refusal :=
  .next (
    if !s.ctrRun then raise .eState s
    else respond .ok 0 { s with compare := truncW s.cfg targetTicks.toNat, cmpArmed := enableIrq })

/-- `CTR_TESTOVF` (R84). -/
def execCtrTestovf (s : State) : Host.Outcome State Fault Refusal :=
  .next (respond .ok 0 (
    if s.ctrRun then { s with counter := BitVec.ofNat 32 s.cfg.testOvfPreload } else s))

end Sys2Proof.Machine
end

