-- ==== Sys2Proof/Machine/Events.lean ====
section
/-! DEFINITION. The environment events (R156, R157, R159 to R162). Events have no response and raise no status (R166). -/

namespace Sys2Proof.Machine

/-- `EV_TICK` (R156): nothing while the counter is stopped; otherwise the overflow update first, the compare match second
(R47, R163 (a)). -/
def execEvTick (s : State) : Host.Outcome State Fault Refusal :=
  .next (if s.ctrRun then compareMatch (advanceCounter s) else s)

/-- `EV_TMRTICK` (R157). -/
def execEvTmrtick (s : State) : Host.Outcome State Fault Refusal :=
  .next (tickTimers s)

/-- `EV_PINIRQ` (R159): the dispatch reads `HANDLER[p]` and nothing else. It has no step when its edge is no polarity (R62;
log 12), or when the environment filters and does not produce it (R159; log 9). -/
def execEvPinirq (p : Pin) (polarity : Edge) (s : State) : Host.Outcome State Fault Refusal :=
  if !(polarity == .rising || polarity == .falling) then .refused (.malformedEvent .edgeCode)
  else if !envDelivers s p polarity then .refused .filteredEvent
  else .next (notify .gpio (BitVec.setWidth 8 p) (handler s p) s)

/-- `EV_PINLVL` (R160). -/
def execEvPinlvl (p : Pin) (b : Bool) (s : State) : Host.Outcome State Fault Refusal :=
  .next (setLevel s p b)

/-- `EV_HWOK` (R161). -/
def execEvHwok (ok : Bool) (s : State) : Host.Outcome State Fault Refusal :=
  .next { s with hwOk := ok }

/-- `EV_RESET` (R162, R180). -/
def execEvReset (s : State) : Host.Outcome State Fault Refusal :=
  .next (resetBlock s)

end Sys2Proof.Machine
end

