-- ==== Sys2Proof/Machine/Gpio.lean ====
section
/-! DEFINITION. The GPIO configuration and interrupt dispatch commands (R125 to R133). -/

namespace Sys2Proof.Machine

/-- `GP_CFG` (R126): toggle-sensing for an input, the initial level for an output; `HANDLER[p]` is not touched. -/
def execGpCfg (p : Pin) (mode : PinMode) (pull : Pull) (initialValue : Bool) (s : State) :
    Host.Outcome State Fault Refusal :=
  .next (
    if (pin s p).initialized then raise .eState s
    else respond .ok 0 (setPin s p
      { initialized := true
        mode := mode
        pull := pull
        senseToggle := mode == .input
        irqMode := .none
        evtEn := false
        prio := 0
        outLevel := mode == .output && initialValue }))

/-- The teardown of a previously armed pin: reconfigured as an input by `GP_CFG`, its pull kept (R127). -/
def teardownSensing (r : PinRecord) : PinRecord :=
  if previouslyArmed r then { r with evtEn := false, irqMode := .none, prio := 0, senseToggle := true } else r

/-- `GP_ARM` (R127). The edge mode None is no legal operand (R61 (d)): such a term is answered as an illegal command, the first
test of R153 (log 12). -/
def execGpArm (p : Pin) (edgeMode : Edge) (priority : BitVec 3) (callback : Token) (s : State) :
    Host.Outcome State Fault Refusal :=
  .next (
    if edgeMode = .none then answerIllegal s
    else if !isInput s p then raise .eState s
    else respond .ok 0
      (setPin (setHandler s p callback) p
        { teardownSensing (pin s p) with irqMode := edgeMode, prio := priority, evtEn := true }))

/-- `GP_DISARM` (R128): always `OK`, the stored handler is kept (C1). -/
def execGpDisarm (p : Pin) (s : State) : Host.Outcome State Fault Refusal :=
  .next (respond .ok 0 (setPin s p { pin s p with evtEn := false }))

/-- `GP_WRITE` (R129). -/
def execGpWrite (p : Pin) (value : Bool) (s : State) : Host.Outcome State Fault Refusal :=
  .next (
    if !isOutput s p then raise .eState s
    else respond .ok 0 (setPin s p { pin s p with outLevel := value }))

/-- `GP_TOGGLE` (R130). -/
def execGpToggle (p : Pin) (s : State) : Host.Outcome State Fault Refusal :=
  .next (
    if !isOutput s p then raise .eState s
    else respond .ok 0 (setPin s p { pin s p with outLevel := !(pin s p).outLevel }))

/-- `GP_READ` (R131). -/
def execGpRead (p : Pin) (s : State) : Host.Outcome State Fault Refusal :=
  .next (
    if !isInput s p then raise .eState s
    else respond .ok (zext32 (level s p)) s)

/-- `GP_DEINIT` (R132): the whole record returns to its reset value, `HANDLER[p]` is not written (D31). -/
def execGpDeinit (p : Pin) (s : State) : Host.Outcome State Fault Refusal :=
  .next (
    if !(pin s p).initialized then raise .eState s
    else respond .ok 0 (setPin s p
      { initialized := false
        mode := .input
        pull := .none
        senseToggle := false
        irqMode := .none
        evtEn := false
        prio := 0
        outLevel := false }))

end Sys2Proof.Machine
end

