-- ==== Sys2Proof/Machine/MonotonicClock.lean ====
section
/-! DEFINITION. The monotonic clock commands (R91, R92). -/

namespace Sys2Proof.Machine

/-- `CLK_GET` (R91). -/
def execClkGet (s : State) : Host.Outcome State Fault Refusal :=
  .next (respond .ok (ts s) s)

/-- `CLK_UPDATE` (R92). -/
def execClkUpdate (newBase : BitVec 32) (s : State) : Host.Outcome State Fault Refusal :=
  .next (respond .ok 0 { s with tsBase := newBase })

end Sys2Proof.Machine
end

