-- ==== Sys2Proof/Machine/SoftwareTimer.lean ====
section
/-! DEFINITION. The software timer commands (R110 to R116). -/

namespace Sys2Proof.Machine

/-- `TMR_CREATE` (R110): the lowest free slot, its index in the response. -/
def execTmrCreate (callback : Token) (s : State) : Host.Outcome State Fault Refusal :=
  .next (
    match freeSlot s with
    | none => raise .eNores s
    | some h =>
      respond .ok (BitVec.ofNat 32 h)
        (setSlot s h { created := true, cb := callback, timeoutMs := 0, state := .idle, remaining := 0 }))

/-- `TMR_SETTO` (R111). -/
def execTmrSetto (handle : Handle) (ms : BitVec 32) (s : State) : Host.Outcome State Fault Refusal :=
  .next (
    if !validHandle s handle then raise .eState s
    else respond .ok 0 (setSlot s handle.toNat { slot s handle with timeoutMs := clampTimeout ms }))

/-- `TMR_START` (R112): the handle test before the zero-timeout test (R153); an Armed timer restarts (D24, C7). -/
def execTmrStart (handle : Handle) (s : State) : Host.Outcome State Fault Refusal :=
  .next (
    if !validHandle s handle then raise .eState s
    else if (slot s handle).timeoutMs = 0 then raise .eParam s
    else respond .ok 0
      (setSlot s handle.toNat
        { slot s handle with
          remaining := BitVec.ofNat 48 (startTicks s.cfg (slot s handle).timeoutMs)
          state := .armed }))

/-- `TMR_STOP` (R113). -/
def execTmrStop (handle : Handle) (s : State) : Host.Outcome State Fault Refusal :=
  .next (
    if !validHandle s handle then raise .eState s
    else respond .ok 0 (setSlot s handle.toNat { slot s handle with state := .idle, remaining := 0 }))

/-- `TMR_NOW` (R114). -/
def execTmrNow (s : State) : Host.Outcome State Fault Refusal :=
  .next (respond .ok (ts s) s)

/-- `TMR_ELAPSED` (R115). -/
def execTmrElapsed (saved : BitVec 32) (s : State) : Host.Outcome State Fault Refusal :=
  .next (respond .ok (elapsedSince (ts s) saved) s)

end Sys2Proof.Machine
end

