-- ==== Sys2Proof/Machine/WakeupScheduler.lean ====
section
/-! DEFINITION. The wakeup scheduler commands (R100, R101). -/

namespace Sys2Proof.Machine

/-- `WK_SCHED` (R100): the state test before the bound test (R153). -/
def execWkSched (timeoutSeconds : BitVec 32) (s : State) : Host.Outcome State Fault Refusal :=
  .next (
    if !s.ctrRun then raise .eState s
    else if wakeTooLong s.cfg timeoutSeconds then raise .eParam s
    else respond .ok 0
      { s with
        compare := truncW s.cfg (wakeTarget s.cfg s.counter.toNat (wakeDelta s.cfg timeoutSeconds))
        cmpArmed := true })

/-- `WK_SETCB` (R101). -/
def execWkSetcb (callback : Token) (s : State) : Host.Outcome State Fault Refusal :=
  .next (respond .ok 0 { s with wkCb := callback })

end Sys2Proof.Machine
end

