-- ==== Sys2Proof/Machine/Dispatch.lean ====
section
/-! DEFINITION. One arm per instruction, each one call of its meaning (R58). -/

namespace Sys2Proof.Machine

def exec (i : Instr) (s : State) : Host.Outcome State Fault Refusal :=
  match i with
  | .ctrInit => Sys2Proof.Machine.execCtrInit s
  | .ctrRead => Sys2Proof.Machine.execCtrRead s
  | .ctrMax => Sys2Proof.Machine.execCtrMax s
  | .ctrSetcmp targetTicks enableIrq => Sys2Proof.Machine.execCtrSetcmp targetTicks enableIrq s
  | .ctrTestovf => Sys2Proof.Machine.execCtrTestovf s
  | .clkGet => Sys2Proof.Machine.execClkGet s
  | .clkUpdate newBase => Sys2Proof.Machine.execClkUpdate newBase s
  | .wkSched timeoutSeconds => Sys2Proof.Machine.execWkSched timeoutSeconds s
  | .wkSetcb callback => Sys2Proof.Machine.execWkSetcb callback s
  | .tmrCreate callback => Sys2Proof.Machine.execTmrCreate callback s
  | .tmrSetto handle ms => Sys2Proof.Machine.execTmrSetto handle ms s
  | .tmrStart handle => Sys2Proof.Machine.execTmrStart handle s
  | .tmrStop handle => Sys2Proof.Machine.execTmrStop handle s
  | .tmrNow => Sys2Proof.Machine.execTmrNow s
  | .tmrElapsed saved => Sys2Proof.Machine.execTmrElapsed saved s
  | .gpCfg pin mode pull initialValue => Sys2Proof.Machine.execGpCfg pin mode pull initialValue s
  | .gpArm pin edgeMode priority handler => Sys2Proof.Machine.execGpArm pin edgeMode priority handler s
  | .gpDisarm pin => Sys2Proof.Machine.execGpDisarm pin s
  | .gpWrite pin value => Sys2Proof.Machine.execGpWrite pin value s
  | .gpToggle pin => Sys2Proof.Machine.execGpToggle pin s
  | .gpRead pin => Sys2Proof.Machine.execGpRead pin s
  | .gpDeinit pin => Sys2Proof.Machine.execGpDeinit pin s
  | .evTick => Sys2Proof.Machine.execEvTick s
  | .evTmrtick => Sys2Proof.Machine.execEvTmrtick s
  | .evPinirq pin polarity => Sys2Proof.Machine.execEvPinirq pin polarity s
  | .evPinlvl pin level => Sys2Proof.Machine.execEvPinlvl pin level s
  | .evHwok ok => Sys2Proof.Machine.execEvHwok ok s
  | .evReset => Sys2Proof.Machine.execEvReset s

end Sys2Proof.Machine
end

