-- ==== Sys2Proof/Machine/Step.lean ====
section
/-! DEFINITION. One step: one stimulus, executed to completion (R9, R45, R69), and the presentation of a word of the opcode
table. -/

namespace Sys2Proof.Machine

/-- The stimulus that arrives next is consumed and decoded on its port. A legal word is executed; an illegal command is answered
(R61); a malformed event has no step (R62); with no stimulus there is no step (R9; log 5). -/
def step (s : State) : Host.Outcome State Fault Refusal :=
  match nextStimulus s with
  | none => .refused .noStimulus
  | some (x, rest) =>
    match decode x.port x.word with
    | .stimulus i => exec i rest
    | .illegal _ => .next (answerIllegal rest)
    | .refused why => .refused (.malformedEvent why)

/-- The state with a word of the opcode table presented next, on the port its opcode belongs to (log 4, log 17). -/
def State.withFetchWord (s : State) (nbits w : Nat) : State := presentFirst (tableStimulus nbits w) s

end Sys2Proof.Machine
end

