-- ==== Sys2Proof/Machine/Assembler.lean ====
section
/-! DEFINITION. The textual syntax (R67), the pseudo-operations and the document's operation names (R68). -/

namespace Sys2Proof.Machine

/-! ## Pseudo-operations (R68) -/

/-- `GP_REARM pin, edge, prio, handler`. -/
def gpRearm (p : Pin) (edgeMode : Edge) (priority : BitVec 3) (callback : Token) : List Instr :=
  [.gpDisarm p, .gpArm p edgeMode priority callback]

/-- `TMR_RESTART handle, ms`. -/
def tmrRestart (handle : Handle) (ms : BitVec 32) : List Instr :=
  [.tmrStop handle, .tmrSetto handle ms, .tmrStart handle]

/-- `WK_CANCEL`: clears `CMP_ARMED`. -/
def wkCancel : List Instr := [.ctrSetcmp 0 false]

/-- Instructions executed in order, stopping at the first that has no step. -/
def execAll : List Instr → State → Host.Outcome State Fault Refusal
  | [], s => .next s
  | i :: rest, s =>
    match exec i s with
    | .next t => execAll rest t
    | .fault r => .fault r
    | .refused r => .refused r

/-! ## Names (R58, R68) -/

/-- The mnemonic of a row (R58). -/
def mnemonic : Op → String
  | .ctrInit => "CTR_INIT"
  | .ctrRead => "CTR_READ"
  | .ctrMax => "CTR_MAX"
  | .ctrSetcmp => "CTR_SETCMP"
  | .ctrTestovf => "CTR_TESTOVF"
  | .clkGet => "CLK_GET"
  | .clkUpdate => "CLK_UPDATE"
  | .wkSched => "WK_SCHED"
  | .wkSetcb => "WK_SETCB"
  | .tmrCreate => "TMR_CREATE"
  | .tmrSetto => "TMR_SETTO"
  | .tmrStart => "TMR_START"
  | .tmrStop => "TMR_STOP"
  | .tmrNow => "TMR_NOW"
  | .tmrElapsed => "TMR_ELAPSED"
  | .gpCfg => "GP_CFG"
  | .gpArm => "GP_ARM"
  | .gpDisarm => "GP_DISARM"
  | .gpWrite => "GP_WRITE"
  | .gpToggle => "GP_TOGGLE"
  | .gpRead => "GP_READ"
  | .gpDeinit => "GP_DEINIT"
  | .evTick => "EV_TICK"
  | .evTmrtick => "EV_TMRTICK"
  | .evPinirq => "EV_PINIRQ"
  | .evPinlvl => "EV_PINLVL"
  | .evHwok => "EV_HWOK"
  | .evReset => "EV_RESET"

/-- The document's operation names of a row; none for the events and for `WK_SETCB`, which the document does not name
(R58, R68, C1). -/
def documentNames : Op → List String
  | .ctrInit => ["init"]
  | .ctrRead => ["read_ticks"]
  | .ctrMax => ["max_ticks"]
  | .ctrSetcmp => ["set_compare"]
  | .ctrTestovf => ["trigger_test_overflow"]
  | .clkGet => ["get_timestamp"]
  | .clkUpdate => ["update_timestamp"]
  | .wkSched => ["schedule_wakeup"]
  | .wkSetcb => []
  | .tmrCreate => ["create"]
  | .tmrSetto => ["set_timeout"]
  | .tmrStart => ["start"]
  | .tmrStop => ["stop"]
  | .tmrNow => ["current_time"]
  | .tmrElapsed => ["elapsed_since"]
  | .gpCfg => ["configure"]
  | .gpArm => ["arm_interrupt", "set_interrupt"]
  | .gpDisarm => ["disarm_interrupt", "remove_interrupt"]
  | .gpWrite => ["write"]
  | .gpToggle => ["toggle"]
  | .gpRead => ["read"]
  | .gpDeinit => ["deinit"]
  | .evTick => []
  | .evTmrtick => []
  | .evPinirq => []
  | .evPinlvl => []
  | .evHwok => []
  | .evReset => []

/-! ## Text (R67) -/

def PinMode.text : PinMode → String
  | .input => "Input"
  | .output => "Output"

def Pull.text : Pull → String
  | .none => "None"
  | .pullUp => "PullUp"
  | .pullDown => "PullDown"

def Edge.text : Edge → String
  | .none => "None"
  | .rising => "Rising"
  | .falling => "Falling"
  | .both => "Both"

def flagText : Bool → String
  | false => "0"
  | true => "1"

/-- A number in decimal; R67 admits decimal and hexadecimal (log 18). -/
def numberText {n : Nat} (v : BitVec n) : String := toString v.toNat

/-- `field=value` (R67). -/
def pairText (name value : String) : String := name ++ "=" ++ value

/-- Pairs separated by commas (R67). -/
def pairsText : List String → String
  | [] => ""
  | [p] => p
  | p :: rest => p ++ ", " ++ pairsText rest

/-- The operand pairs of an instruction in the order of R58's operand column (R67). -/
def operandTexts : Instr → List String
  | .ctrInit => []
  | .ctrRead => []
  | .ctrMax => []
  | .ctrSetcmp targetTicks enableIrq =>
    [pairText "target_ticks" (numberText targetTicks), pairText "enable_irq" (flagText enableIrq)]
  | .ctrTestovf => []
  | .clkGet => []
  | .clkUpdate newBase => [pairText "new_base" (numberText newBase)]
  | .wkSched timeoutSeconds => [pairText "timeout_seconds" (numberText timeoutSeconds)]
  | .wkSetcb callback => [pairText "callback" (numberText callback)]
  | .tmrCreate callback => [pairText "callback" (numberText callback)]
  | .tmrSetto handle ms => [pairText "handle" (numberText handle), pairText "ms" (numberText ms)]
  | .tmrStart handle => [pairText "handle" (numberText handle)]
  | .tmrStop handle => [pairText "handle" (numberText handle)]
  | .tmrNow => []
  | .tmrElapsed saved => [pairText "saved" (numberText saved)]
  | .gpCfg p mode pull initialValue =>
    [pairText "pin" (numberText p), pairText "mode" (PinMode.text mode), pairText "pull" (Pull.text pull),
     pairText "initial_value" (flagText initialValue)]
  | .gpArm p edgeMode priority callback =>
    [pairText "pin" (numberText p), pairText "edge" (Edge.text edgeMode), pairText "prio" (numberText priority),
     pairText "handler" (numberText callback)]
  | .gpDisarm p => [pairText "pin" (numberText p)]
  | .gpWrite p value => [pairText "pin" (numberText p), pairText "value" (flagText value)]
  | .gpToggle p => [pairText "pin" (numberText p)]
  | .gpRead p => [pairText "pin" (numberText p)]
  | .gpDeinit p => [pairText "pin" (numberText p)]
  | .evTick => []
  | .evTmrtick => []
  | .evPinirq p polarity => [pairText "pin" (numberText p), pairText "edge" (Edge.text polarity)]
  | .evPinlvl p b => [pairText "pin" (numberText p), pairText "level" (flagText b)]
  | .evHwok ok => [pairText "ok" (flagText ok)]
  | .evReset => []

/-- An instruction as text: the mnemonic, then its pairs (R67). -/
def assemblyText (i : Instr) : String :=
  match operandTexts i with
  | [] => mnemonic i.op
  | pairs => mnemonic i.op ++ " " ++ pairsText pairs

def Status.text : Status → String
  | .ok => "OK"
  | .eState => "E_STATE"
  | .eNores => "E_NORES"
  | .eParam => "E_PARAM"
  | .eIllegal => "E_ILLEGAL"

/-- A response as text, `-> STATUS data` (R67). -/
def responseText (st : Status) (data : BitVec 32) : String := "-> " ++ Status.text st ++ " " ++ numberText data

def NotifyKind.text : NotifyKind → String
  | .wakeup => "WAKEUP"
  | .timer => "TIMER"
  | .gpio => "GPIO"

/-- A notification as text, `!NOTIFY kind index token` (R67). -/
def notifyText (kind : NotifyKind) (index : BitVec 8) (token : Token) : String :=
  "!NOTIFY " ++ NotifyKind.text kind ++ " " ++ numberText index ++ " " ++ numberText token

/-- `xN EVENT`: N copies of the word (R67). -/
def repeatWord (n : Nat) (x : Stimulus) : List Stimulus := List.replicate n x

end Sys2Proof.Machine
end

