-- ==== Sys2Proof/Machine/Observe.lean ====
section
/-! DEFINITION. What is observed of a state (R195; of a run, see Run.lean), the exported configuration (R24), the pin states
(R21) and the contexts (R154). All are functions of the state or of the instruction, not further state. -/

namespace Sys2Proof.Machine

/-- The response word of an output, if it is one. -/
def Output.response? : Output → Option Word
  | .response w => some w
  | .notification _ => none

/-- The NOTIFY word of an output, if it is one. -/
def Output.notification? : Output → Option Word
  | .response _ => none
  | .notification w => some w

/-- The response words so far, in step order (R195). -/
def responses (s : State) : List Word := s.out.filterMap Output.response?

/-- The NOTIFY words so far, in step order (R195). -/
def notifications (s : State) : List Word := s.out.filterMap Output.notification?

/-- What the block exports continuously: `COMPARE` and `CMP_ARMED` to the counter peripheral, the pin records to the GPIO
peripheral (R24). -/
structure ExportedConfig where
  compare : BitVec 32
  cmpArmed : Bool
  pins : Vector PinRecord 32
deriving DecidableEq, Repr

/-- The exported configuration of a state (R24). -/
def State.exports (s : State) : ExportedConfig where
  compare := s.compare
  cmpArmed := s.cmpArmed
  pins := s.pins

/-- `PIN_IN` as the 32-bit word of R23, bit `p` the level of pin `p`. -/
def pinInWord (s : State) : BitVec 32 :=
  BitVec.ofNat 32 (s.pinIn.toList.foldr (fun b acc => b.toNat + 2 * acc) 0)

/-- The pin states of the document's state machine (R21, R125). -/
inductive PinState where
  | unconfigured
  | configured (mode : PinMode)
  | interruptArmed
deriving DecidableEq, Repr

/-- The state of a pin, read off its record (R21). -/
def pinState (r : PinRecord) : PinState :=
  if r.initialized then
    match r.mode with
    | .output => .configured .output
    | .input => if r.evtEn then .interruptArmed else .configured .input
  else .unconfigured

/-- Foreground is the execution of a command, interrupt context that of an event (R154). -/
inductive Context where
  | foreground
  | interrupt
deriving DecidableEq, Repr

/-- The context an instruction executes in (R154). -/
def context (i : Instr) : Context :=
  match i.port with
  | .command => .foreground
  | .event => .interrupt

end Sys2Proof.Machine
end

