-- ==== Sys2Proof/Machine/Run.lean ====
section
/-! DEFINITION. Runs of the block and what is observed of them (R24, R195). A run is a sequence of admitted stimuli, finite or
infinite; its stimuli and its states are functions of the step number, and none of this is state of the block. -/

namespace Sys2Proof.Machine

/-- One stimulus arrives and is executed: the step of the state it is presented to (R9, R45). -/
def stimulate (x : Stimulus) (s : State) : Host.Outcome State Fault Refusal := step (presentFirst x s)

/-- How long a run is: "A run of the block is a finite or infinite sequence of admitted stimuli" (R195). -/
inductive Extent where
  | finite (steps : Nat)
  | infinite
deriving DecidableEq, Repr

/-- Whether a run of this extent has a step number `n`, counted from 0. -/
def Extent.hasStep : Extent → Nat → Prop
  | .finite steps, n => n < steps
  | .infinite, _ => True

/-- The run that the stimuli `xs` make from `s`, through `states`: each stimulus is one step, and each is admitted, that is, has
a step (R45, R62, R195). -/
structure IsRunFrom (s : State) (xs : Nat → Stimulus) (states : Nat → State) (extent : Extent) : Prop where
  start : states 0 = s
  next : ∀ n, extent.hasStep n → stimulate (xs n) (states n) = .next (states (n + 1))

/-- A run: from the reset state, with the parameters fixed and `HW_OK` and `PIN_IN` drawn once, at its start (R4, R195, V1,
V2). -/
def IsRun (xs : Nat → Stimulus) (states : Nat → State) (extent : Extent) : Prop :=
  ∃ (c : Config) (hwOk : Bool) (pinIn : Vector Bool 32), IsRunFrom (State.powerUp c hwOk pinIn) xs states extent

/-- Exactly what is observed of a run: the two streams in step order, and the exported configuration, continuously, that is in
every state of the run in order (R24, R195; a run has the order of stimuli and no other time, R194). -/
structure Observation where
  responses : List Word
  notifications : List Word
  exported : List ExportedConfig
deriving DecidableEq, Repr

/-- What has been observed of a run after `n` steps (R195): of an infinite run, this for every `n`. -/
def observe (states : Nat → State) (n : Nat) : Observation where
  responses := responses (states n)
  notifications := notifications (states n)
  exported := (List.range (n + 1)).map fun k => (states k).exports

end Sys2Proof.Machine
end

