-- ==== Sys2Proof/Machine/Trace.lean ====
section
/-! DEFINITION. Serialised words: little-endian, at offsets that are multiples of 8 bytes (R42, R43). -/

namespace Sys2Proof.Machine

/-- The eight bytes of a word, byte 0 holding bits 7:0 and byte 7 the opcode (R42). -/
def wordBytes (w : Word) : List (BitVec 8) :=
  [w.extractLsb' 0 8, w.extractLsb' 8 8, w.extractLsb' 16 8, w.extractLsb' 24 8,
   w.extractLsb' 32 8, w.extractLsb' 40 8, w.extractLsb' 48 8, w.extractLsb' 56 8]

/-- A trace of words as bytes: word `k` at offset `8 * k` (R43). -/
def traceBytes : List Word → List (BitVec 8)
  | [] => []
  | w :: rest => wordBytes w ++ traceBytes rest

/-- The words of a trace; none when the length is no multiple of 8. -/
def traceWords : List (BitVec 8) → Option (List Word)
  | [] => some []
  | b0 :: b1 :: b2 :: b3 :: b4 :: b5 :: b6 :: b7 :: rest =>
    (traceWords rest).map fun ws => (b7 ++ b6 ++ b5 ++ b4 ++ b3 ++ b2 ++ b1 ++ b0) :: ws
  | _ => none

end Sys2Proof.Machine
end

