-- ==== Sys2Proof/Safety.lean ====
section
/-! DEFINITION. What holds of every reachable state (R15, R18, R19, R20, R21, R80), the tables of the spec read a second time
(R125, R152), and the counts and projections that statements about runs are made in. -/

namespace Sys2Proof.Safety

open Sys2Proof.Machine

/-! ## The invariant -/

/-- "counter value is always in `[0, max_ticks]`", and the same for `COMPARE` (R15). -/
def CounterInRange (s : State) : Prop :=
  s.counter.toNat ≤ maxTicks s.cfg ∧ s.compare.toNat ≤ maxTicks s.cfg

/-- "`CTR_RUN = 0` implies they still hold their reset values" of `COUNTER`, `COMPARE` and `CMP_ARMED` (R80). -/
def StoppedAtReset (s : State) : Prop :=
  s.ctrRun = false → s.counter = 0 ∧ s.compare = 0 ∧ s.cmpArmed = false

/-- One slot (R18, R112, R157): a free slot is all 0; `timeout_ms` is 0 or at least 10; an Armed slot has `remaining ≥ 1` and a
timeout; an Idle slot has `remaining = 0`. -/
def SlotOk (t : TimerSlot) : Prop :=
  (t.created = false → t = TimerSlot.free) ∧
  (t.timeoutMs = 0 ∨ 10 ≤ t.timeoutMs.toNat) ∧
  (t.state = .armed → 1 ≤ t.remaining.toNat ∧ t.timeoutMs ≠ 0) ∧
  (t.state = .idle → t.remaining = 0)

/-- The pool has `N_TIMERS` slots (R18), each as `SlotOk` says, and the created ones are `T[0]` to `T[k - 1]` (R19). -/
def PoolOk (s : State) : Prop :=
  s.timers.length = s.cfg.nTimers ∧ (∀ t ∈ s.timers, SlotOk t) ∧
  ∃ k, ∀ h, (hh : h < s.timers.length) → (s.timers[h].created = true ↔ h < k)

/-- One pin record (R20, R21): `evt_en` only on an armed input, no interrupt configuration on an output, toggle-sensing and a
low `out_level` on every configured input, all 0 while not initialised. -/
def PinOk (r : PinRecord) : Prop :=
  (r.evtEn = true → r.initialized = true ∧ r.mode = .input ∧ r.irqMode ≠ .none) ∧
  (r.initialized = true → r.mode = .output → r.evtEn = false ∧ r.irqMode = .none ∧ r.senseToggle = false) ∧
  (r.initialized = true → r.mode = .input → r.senseToggle = true ∧ r.outLevel = false) ∧
  (r.initialized = false → r = PinRecord.unconfigured)

/-- The invariant of the block. -/
structure Inv (s : State) : Prop where
  counterInRange : CounterInRange s
  stoppedAtReset : StoppedAtReset s
  poolOk : PoolOk s
  pinsOk : ∀ p : Pin, PinOk (pin s p)

/-! ## Tables read a second time -/

/-- The status each command answers, from the table of R152 and the order of R153; for an event, `OK` stands and is used by
nothing. -/
def tableStatus (i : Instr) (s : State) : Status :=
  match i with
  | .ctrInit => if s.ctrRun = true then .eState else if s.hwOk = false then .eNores else .ok
  | .ctrSetcmp _ _ => if s.ctrRun = false then .eState else .ok
  | .wkSched d =>
    if s.ctrRun = false then .eState else if maxTicks s.cfg < d.toNat * s.cfg.f then .eParam else .ok
  | .tmrCreate _ =>
    if ∀ h < s.cfg.nTimers, ((s.timers[h]?).map TimerSlot.created).getD true = true then .eNores else .ok
  | .tmrSetto h _ => if validHandle s h = false then .eState else .ok
  | .tmrStart h =>
    if validHandle s h = false then .eState else if (slot s h).timeoutMs = 0 then .eParam else .ok
  | .tmrStop h => if validHandle s h = false then .eState else .ok
  | .gpCfg p _ _ _ => if (pin s p).initialized = true then .eState else .ok
  | .gpArm p _ _ _ => if (pin s p).initialized = false ∨ (pin s p).mode ≠ .input then .eState else .ok
  | .gpWrite p _ => if (pin s p).initialized = false ∨ (pin s p).mode ≠ .output then .eState else .ok
  | .gpToggle p => if (pin s p).initialized = false ∨ (pin s p).mode ≠ .output then .eState else .ok
  | .gpRead p => if (pin s p).initialized = false ∨ (pin s p).mode ≠ .input then .eState else .ok
  | .gpDeinit p => if (pin s p).initialized = false then .eState else .ok
  | .ctrRead => .ok
  | .ctrMax => .ok
  | .ctrTestovf => .ok
  | .clkGet => .ok
  | .clkUpdate _ => .ok
  | .wkSetcb _ => .ok
  | .tmrNow => .ok
  | .tmrElapsed _ => .ok
  | .gpDisarm _ => .ok
  | .evTick => .ok
  | .evTmrtick => .ok
  | .evPinirq _ _ => .ok
  | .evPinlvl _ _ => .ok
  | .evHwok _ => .ok
  | .evReset => .ok

/-- Whether a command returns a value (R63). -/
def returnsValue : Instr → Bool
  | .ctrRead => true
  | .ctrMax => true
  | .clkGet => true
  | .tmrCreate _ => true
  | .tmrNow => true
  | .tmrElapsed _ => true
  | .gpRead _ => true
  | .ctrInit => false
  | .ctrSetcmp _ _ => false
  | .ctrTestovf => false
  | .clkUpdate _ => false
  | .wkSched _ => false
  | .wkSetcb _ => false
  | .tmrSetto _ _ => false
  | .tmrStart _ => false
  | .tmrStop _ => false
  | .gpCfg _ _ _ _ => false
  | .gpArm _ _ _ _ => false
  | .gpDisarm _ => false
  | .gpWrite _ _ => false
  | .gpToggle _ => false
  | .gpDeinit _ => false
  | .evTick => false
  | .evTmrtick => false
  | .evPinirq _ _ => false
  | .evPinlvl _ _ => false
  | .evHwok _ => false
  | .evReset => false

/-- The transition table of R125 for one pin: where a command on pin `p` takes the pin's state. -/
def nextPinState (st : PinState) : Instr → PinState
  | .gpCfg _ mode _ _ => if st = .unconfigured then .configured mode else st
  | .gpArm _ _ _ _ =>
    if st = .configured .input ∨ st = .interruptArmed then .interruptArmed else st
  | .gpDisarm _ => if st = .interruptArmed then .configured .input else st
  | .gpDeinit _ => .unconfigured
  | .ctrInit => st
  | .ctrRead => st
  | .ctrMax => st
  | .ctrSetcmp _ _ => st
  | .ctrTestovf => st
  | .clkGet => st
  | .clkUpdate _ => st
  | .wkSched _ => st
  | .wkSetcb _ => st
  | .tmrCreate _ => st
  | .tmrSetto _ _ => st
  | .tmrStart _ => st
  | .tmrStop _ => st
  | .tmrNow => st
  | .tmrElapsed _ => st
  | .gpWrite _ _ => st
  | .gpToggle _ => st
  | .gpRead _ => st
  | .evTick => st
  | .evTmrtick => st
  | .evPinirq _ _ => st
  | .evPinlvl _ _ => st
  | .evHwok _ => st
  | .evReset => st

/-- The pin a GPIO command acts on. -/
def commandPin : Instr → Option Pin
  | .gpCfg p _ _ _ => some p
  | .gpArm p _ _ _ => some p
  | .gpDisarm p => some p
  | .gpWrite p _ => some p
  | .gpToggle p => some p
  | .gpRead p => some p
  | .gpDeinit p => some p
  | .ctrInit => none
  | .ctrRead => none
  | .ctrMax => none
  | .ctrSetcmp _ _ => none
  | .ctrTestovf => none
  | .clkGet => none
  | .clkUpdate _ => none
  | .wkSched _ => none
  | .wkSetcb _ => none
  | .tmrCreate _ => none
  | .tmrSetto _ _ => none
  | .tmrStart _ => none
  | .tmrStop _ => none
  | .tmrNow => none
  | .tmrElapsed _ => none
  | .evTick => none
  | .evTmrtick => none
  | .evPinirq _ _ => none
  | .evPinlvl _ _ => none
  | .evHwok _ => none
  | .evReset => none

/-! ## Runs -/

/-- The word of one counter tick on its port (R156). -/
def counterTick : Stimulus := ⟨.event, 0xE000000000000000⟩

/-- The word of one timer tick on its port (R157). -/
def timerTick : Stimulus := ⟨.event, 0xE100000000000000⟩

/-- The instruction a stimulus decodes to, if it does. -/
def stimulusInstr (x : Stimulus) : Option Instr :=
  match decode x.port x.word with
  | .stimulus i => some i
  | .illegal _ => none
  | .refused _ => none

/-- Whether the next step of a state is an overflowing `EV_TICK` (R155, R156). -/
def overflowsNext (s : State) : Bool :=
  match s.input with
  | [] => false
  | x :: _ => stimulusInstr x == some .evTick && s.ctrRun && decide (s.counter.toNat = maxTicks s.cfg)

/-- How many of the next `n` steps are overflowing `EV_TICK` steps (R94). -/
def overflowCount : Nat → State → Nat
  | 0, _ => 0
  | n + 1, s =>
    match step s with
    | .next t => (if overflowsNext s then 1 else 0) + overflowCount n t
    | .fault _ => 0
    | .refused _ => 0

/-- The number of `EV_TICK` steps to the firing step, `((COMPARE - t - 1) mod 2^W) + 1` (R103). -/
def ticksToMatch (s : State) : Nat :=
  (((s.compare.toNat : Int) - s.counter.toNat - 1) % (2 ^ s.cfg.w : Int)).toNat + 1

/-- The state with the stored interrupt priorities forgotten (R20, R163: `prio` is read by no rule). -/
def forgetPriorities (s : State) : State := { s with pins := s.pins.map fun r => { r with prio := 0 } }

/-- The instructions that overwrite `TS_BASE` or `COUNTER` other than by counting (R93). -/
def rewritesTime : Instr → Bool
  | .clkUpdate _ => true
  | .ctrTestovf => true
  | .evReset => true
  | .ctrInit => true
  | .ctrRead => false
  | .ctrMax => false
  | .ctrSetcmp _ _ => false
  | .clkGet => false
  | .wkSched _ => false
  | .wkSetcb _ => false
  | .tmrCreate _ => false
  | .tmrSetto _ _ => false
  | .tmrStart _ => false
  | .tmrStop _ => false
  | .tmrNow => false
  | .tmrElapsed _ => false
  | .gpCfg _ _ _ _ => false
  | .gpArm _ _ _ _ => false
  | .gpDisarm _ => false
  | .gpWrite _ _ => false
  | .gpToggle _ => false
  | .gpRead _ => false
  | .gpDeinit _ => false
  | .evTick => false
  | .evTmrtick => false
  | .evPinirq _ _ => false
  | .evPinlvl _ _ => false
  | .evHwok _ => false

end Sys2Proof.Safety
end

