-- ==== Sys2Proof/Certificates/Slice0/Obligations.lean ====
section
/-! DEFINITION. The statements for the provers. A response word is written out as R63 lays it out: `OK` with data `d` is `d` in
64 bits, an error status is its code in bits 39:32; a NOTIFY word as R64 lays it out. A next state is written as a record
update, so it says at once what an instruction writes and that it writes nothing else. -/

open Sys2Proof Sys2Proof.Machine Sys2Proof.Safety

/-! ## Reset -/

/-- R26: every element of the block at its reset value; of `HW_OK` and `PIN_IN`, which R26 leaves unspecified, nothing is said.
-/
def Obligations.PowerUpLeavesTheResetValues : Prop :=
  State.reset.ctrRun = false ∧ State.reset.counter = 0 ∧ State.reset.compare = 0 ∧ State.reset.cmpArmed = false ∧
  State.reset.tsBase = 0 ∧ State.reset.wkCb = 0 ∧
  (∀ h < State.reset.cfg.nTimers, State.reset.timers[h]? = some
    { created := false, cb := 0, timeoutMs := 0, state := .idle, remaining := 0 }) ∧
  (∀ p : Pin, pin State.reset p =
    { initialized := false, mode := .input, pull := .none, senseToggle := false, irqMode := .none, evtEn := false,
      prio := 0, outLevel := false }) ∧
  (∀ p : Pin, handler State.reset p = 0)

/-- R162: the reset event gives every element of the block its reset value and leaves `HW_OK` and `PIN_IN`. That the model's own
fields (parameters, waiting stimuli, words produced) stay is R27's and the model's (log 1, log 4, log 8). -/
def Obligations.ResetEventResetsTheBlock : Prop :=
  encode .evReset = 0xEF00000000000000 ∧
  ∀ s : State, exec .evReset s = .next
    { cfg := s.cfg, ctrRun := false, counter := 0, compare := 0, cmpArmed := false, tsBase := 0, wkCb := 0,
      timers := List.replicate s.cfg.nTimers
        { created := false, cb := 0, timeoutMs := 0, state := .idle, remaining := 0 },
      pins := Vector.replicate 32
        { initialized := false, mode := .input, pull := .none, senseToggle := false, irqMode := .none, evtEn := false,
          prio := 0, outLevel := false },
      handlers := Vector.replicate 32 0,
      hwOk := s.hwOk, pinIn := s.pinIn, input := s.input, out := s.out }

/-! ## Decoding, encoding and the step -/

/-- A step executes the stimulus that arrives next: consumed, decoded, executed (R45, R69). That the stimuli wait in a field of
the state is the model's choice (log 4). -/
def Obligations.StepRunsTheDecodedInstruction : Prop :=
  ∀ (s : State) (x : Stimulus) (rest : List Stimulus) (i : Instr),
    s.input = x :: rest → decode x.port x.word = .stimulus i → step s = exec i { s with input := rest }

/-- R61: which command words are illegal, said from the opcode list, the masks of R57 and the two constraints ((a) to (d)), and
that such a command is answered `E_ILLEGAL` and does nothing else. -/
def Obligations.IllegalCommandWordsAreThoseOfTheRule : Prop :=
  (∀ w : Word, (∃ why, decode .command w = .illegal why) ↔
    (∀ o ∈ Op.all, o.port = .command → w >>> 56 ≠ BitVec.setWidth 64 o.code) ∨
    (∃ o ∈ Op.all, o.port = .command ∧ w >>> 56 = BitVec.setWidth 64 o.code ∧
      w &&& o.format.mask ≠ BitVec.setWidth 64 o.code <<< 56) ∨
    (w >>> 56 = 0x50 ∧ (w >>> 38) &&& 3 = 3) ∨
    (w >>> 56 = 0x51 ∧ (w >>> 41) &&& 3 = 0)) ∧
  ∀ (s : State) (w : Word) (rest : List Stimulus) (why : Reject),
    s.input = ⟨.command, w⟩ :: rest → decode .command w = .illegal why →
    step s = .next { s with input := rest, out := s.out ++ [.response 0x0000000400000000] }

/-- R62: which event words are refused, and that the machine has no step for them (a refusal by name; log 9). -/
def Obligations.MalformedEventsAreRefused : Prop :=
  (∀ w : Word, (∃ why, decode .event w = .refused why) ↔
    (∀ o ∈ Op.all, o.port = .event → w >>> 56 ≠ BitVec.setWidth 64 o.code) ∨
    (∃ o ∈ Op.all, o.port = .event ∧ w >>> 56 = BitVec.setWidth 64 o.code ∧
      w &&& o.format.mask ≠ BitVec.setWidth 64 o.code <<< 56) ∨
    (w >>> 56 = 0xE2 ∧ ((w >>> 41) &&& 3 = 0 ∨ (w >>> 41) &&& 3 = 3))) ∧
  ∀ (s : State) (w : Word) (rest : List Stimulus) (why : Reject),
    s.input = ⟨.event, w⟩ :: rest → decode .event w = .refused why →
    step s = .refused (.malformedEvent why)

/-- A few words of `95_test_vectors.md` decode as listed there (V-ENC-1 to V-ENC-5, V-ENC-17, V-ENC-20), and `GP_CFG` with
nothing set but `pull = 3` is illegal for that reason (R61 (c)). -/
def Obligations.ListedWordsDecodeAsListed : Prop :=
  decode .command 0x1300010001000010 = .stimulus (.ctrSetcmp 0x01000010 true) ∧
  decode .command 0x410000FFFFFFFFFF = .stimulus (.tmrSetto 255 0xFFFFFFFF) ∧
  decode .command 0x500001BF00000000 = .stimulus (.gpCfg 31 .output .pullDown true) ∧
  decode .command 0x5107061FFFFFFFFF = .stimulus (.gpArm 31 .both 7 0xFFFFFFFF) ∧
  decode .event 0xE200041F00000000 = .stimulus (.evPinirq 31 .falling) ∧
  decode .command 0x500000C000000000 = .illegal .pullCode ∧
  decode .command 0xE000000000000000 = .illegal .unassignedOpcode ∧
  decode .event 0xE200060500000000 = .refused .edgeCode

/-- Every well-formed instruction, with every operand at every value, decodes back from its own word on its own port. -/
def Obligations.DecodeOfEncodeIsTheInstruction : Prop :=
  ∀ i : Instr, i.wellFormed = true → decode i.port (encode i) = .stimulus i

/-- Every word that decodes is the word of the instruction it decodes to, which is well-formed and belongs to that port: no bit
of an accepted word is dropped, and no two words mean the same. -/
def Obligations.EncodeOfDecodeIsTheWord : Prop :=
  ∀ (p : Port) (w : Word) (i : Instr), decode p w = .stimulus i → encode i = w ∧ i.wellFormed = true ∧ i.port = p

/-! ## Counter adapter -/

/-- R80 whole: the two errors, in their order, and the start of the counter. -/
def Obligations.CtrInitStartsTheCounter : Prop :=
  encode .ctrInit = 0x1000000000000000 ∧
  ∀ s : State,
    (s.ctrRun = true → exec .ctrInit s = .next { s with out := s.out ++ [.response 0x0000000100000000] }) ∧
    (s.ctrRun = false → s.hwOk = false →
      exec .ctrInit s = .next { s with out := s.out ++ [.response 0x0000000200000000] }) ∧
    (s.ctrRun = false → s.hwOk = true →
      exec .ctrInit s = .next
        { s with ctrRun := true, counter := 0, compare := 0, cmpArmed := false, out := s.out ++ [.response 0] })

/-- R81. -/
def Obligations.CtrReadReturnsTheCount : Prop :=
  encode .ctrRead = 0x1100000000000000 ∧
  ∀ s : State, exec .ctrRead s = .next { s with out := s.out ++ [.response (BitVec.setWidth 64 s.counter)] }

/-- R82: `MAX_TICKS = 2^W - 1`, whatever the state of the counter. -/
def Obligations.CtrMaxReturnsTheConstant : Prop :=
  encode .ctrMax = 0x1200000000000000 ∧
  ∀ s : State, exec .ctrMax s = .next { s with out := s.out ++ [.response (BitVec.ofNat 64 (2 ^ s.cfg.w - 1))] }

/-- R83: `E_STATE` while stopped; otherwise the target truncated to W bits and the armed bit. -/
def Obligations.CtrSetcmpProgramsTheCompare : Prop :=
  ∀ (d : BitVec 32) (e : Bool),
    encode (.ctrSetcmp d e) =
      0x1300000000000000 ||| BitVec.setWidth 64 (BitVec.ofBool e) <<< 40 ||| BitVec.setWidth 64 d ∧
    ∀ s : State,
      (s.ctrRun = false →
        exec (.ctrSetcmp d e) s = .next { s with out := s.out ++ [.response 0x0000000100000000] }) ∧
      (s.ctrRun = true →
        exec (.ctrSetcmp d e) s = .next
          { s with compare := BitVec.ofNat 32 (d.toNat % 2 ^ s.cfg.w), cmpArmed := e, out := s.out ++ [.response 0] })

/-- R84, as this spec reads it (its preload is a passage from general knowledge, K4; log 15): the preload while running, nothing
while stopped, `OK` in both. -/
def Obligations.CtrTestovfPreloadsTheCounter : Prop :=
  encode .ctrTestovf = 0x1400000000000000 ∧
  ∀ s : State,
    (s.ctrRun = true →
      exec .ctrTestovf s = .next
        { s with counter := BitVec.ofNat 32 s.cfg.testOvfPreload, out := s.out ++ [.response 0] }) ∧
    (s.ctrRun = false → exec .ctrTestovf s = .next { s with out := s.out ++ [.response 0] })

/-! ## Monotonic clock -/

/-- R90, R91, R114: both reads answer `(TS_BASE + COUNTER div F) mod 2^32`. -/
def Obligations.ClockReadsReturnTheTimestamp : Prop :=
  encode .clkGet = 0x2000000000000000 ∧ encode .tmrNow = 0x4400000000000000 ∧
  ∀ s : State,
    exec .clkGet s = .next
      { s with out := s.out ++ [.response (BitVec.ofNat 64 ((s.tsBase.toNat + s.counter.toNat / s.cfg.f) % 2 ^ 32))] } ∧
    exec .tmrNow s = .next
      { s with out := s.out ++ [.response (BitVec.ofNat 64 ((s.tsBase.toNat + s.counter.toNat / s.cfg.f) % 2 ^ 32))] }

/-- R92: the base is overwritten unconditionally, the counter is not touched. -/
def Obligations.ClkUpdateOverwritesTheBase : Prop :=
  ∀ (b : BitVec 32) (s : State),
    encode (.clkUpdate b) = 0x2100000000000000 ||| BitVec.setWidth 64 b ∧
    exec (.clkUpdate b) s = .next { s with tsBase := b, out := s.out ++ [.response 0] }

/-! ## Wakeup scheduler -/

/-- R100: the two errors in their order; otherwise the document's target, the wrap branch as it is written there, stored modulo
`2^W`, and the request armed. -/
def Obligations.WkSchedProgramsTheWakeup : Prop :=
  ∀ d : BitVec 32,
    encode (.wkSched d) = 0x3000000000000000 ||| BitVec.setWidth 64 d ∧
    ∀ s : State,
      (s.ctrRun = false → exec (.wkSched d) s = .next { s with out := s.out ++ [.response 0x0000000100000000] }) ∧
      (s.ctrRun = true → 2 ^ s.cfg.w - 1 < d.toNat * s.cfg.f →
        exec (.wkSched d) s = .next { s with out := s.out ++ [.response 0x0000000300000000] }) ∧
      (s.ctrRun = true → d.toNat * s.cfg.f ≤ 2 ^ s.cfg.w - 1 →
        exec (.wkSched d) s = .next
          { s with
            compare := BitVec.ofNat 32
              ((if 2 ^ s.cfg.w - 1 < s.counter.toNat + d.toNat * s.cfg.f
                then 2 ^ s.cfg.w - 1 - s.counter.toNat + d.toNat * s.cfg.f
                else s.counter.toNat + d.toNat * s.cfg.f) % 2 ^ s.cfg.w)
            cmpArmed := true
            out := s.out ++ [.response 0] })

/-- R101. -/
def Obligations.WkSetcbStoresTheToken : Prop :=
  ∀ (t : Token) (s : State),
    encode (.wkSetcb t) = 0x3100000000000000 ||| BitVec.setWidth 64 t ∧
    exec (.wkSetcb t) s = .next { s with wkCb := t, out := s.out ++ [.response 0] }

/-- R103 (the spec's own inference from R100 and R156): after a successful `WK_SCHED` in a state whose counter is in range, the
number of ticks to the firing step is the requested delay in the no-wrap branch, a full period for a delay of 0, and
`((2^W - 2 - 2t + delta) mod 2^W) + 1` across the wrap. -/
def Obligations.WakeupDelayIsTheRulesFormula : Prop :=
  ∀ (d : BitVec 32) (s t : State), CounterInRange s → s.ctrRun = true → d.toNat * s.cfg.f ≤ 2 ^ s.cfg.w - 1 →
    exec (.wkSched d) s = .next t →
    (s.counter.toNat + d.toNat * s.cfg.f ≤ 2 ^ s.cfg.w - 1 → 1 ≤ d.toNat → ticksToMatch t = d.toNat * s.cfg.f) ∧
    (d.toNat = 0 → ticksToMatch t = 2 ^ s.cfg.w) ∧
    (2 ^ s.cfg.w - 1 < s.counter.toNat + d.toNat * s.cfg.f →
      (ticksToMatch t : Int) =
        ((2 ^ s.cfg.w : Int) - 2 - 2 * s.counter.toNat + d.toNat * s.cfg.f) % (2 ^ s.cfg.w : Int) + 1)

/-! ## Software timers -/

/-- R110: the pool exhausted, or the lowest free slot bound, Idle, with no timeout, its index answered. -/
def Obligations.TmrCreateBindsTheLowestFreeSlot : Prop :=
  ∀ (cb : Token) (s : State),
    encode (.tmrCreate cb) = 0x4000000000000000 ||| BitVec.setWidth 64 cb ∧
    ((∀ h < s.cfg.nTimers, ∃ t, s.timers[h]? = some t ∧ t.created = true) →
      exec (.tmrCreate cb) s = .next { s with out := s.out ++ [.response 0x0000000200000000] }) ∧
    ∀ h < s.cfg.nTimers,
      (∃ t, s.timers[h]? = some t ∧ t.created = false) →
      (∀ k < h, ∃ t, s.timers[k]? = some t ∧ t.created = true) →
      exec (.tmrCreate cb) s = .next
        { s with
          timers := s.timers.set h { created := true, cb := cb, timeoutMs := 0, state := .idle, remaining := 0 }
          out := s.out ++ [.response (BitVec.ofNat 64 h)] }

/-- R111, R116: `E_STATE` for an invalid handle; otherwise the timeout, raised to 10 ms, and nothing else of the slot. -/
def Obligations.TmrSettoClampsTheTimeout : Prop :=
  ∀ (h : Handle) (ms : BitVec 32),
    encode (.tmrSetto h ms) = 0x4100000000000000 ||| BitVec.setWidth 64 h <<< 32 ||| BitVec.setWidth 64 ms ∧
    ∀ s : State,
      (s.cfg.nTimers ≤ h.toNat ∨ (∃ t, s.timers[h.toNat]? = some t ∧ t.created = false) →
        exec (.tmrSetto h ms) s = .next { s with out := s.out ++ [.response 0x0000000100000000] }) ∧
      ∀ t, h.toNat < s.cfg.nTimers → s.timers[h.toNat]? = some t → t.created = true →
        exec (.tmrSetto h ms) s = .next
          { s with
            timers := s.timers.set h.toNat { t with timeoutMs := if ms.toNat < 10 then 10 else ms }
            out := s.out ++ [.response 0] }

/-- R112, R116: the two errors in their order; otherwise the converted timeout, raised to `MIN_TICKS`, and the slot Armed,
whatever its state was. -/
def Obligations.TmrStartArmsTheCountdown : Prop :=
  ∀ h : Handle,
    encode (.tmrStart h) = 0x4200000000000000 ||| BitVec.setWidth 64 h <<< 32 ∧
    ∀ s : State,
      (s.cfg.nTimers ≤ h.toNat ∨ (∃ t, s.timers[h.toNat]? = some t ∧ t.created = false) →
        exec (.tmrStart h) s = .next { s with out := s.out ++ [.response 0x0000000100000000] }) ∧
      ∀ t, h.toNat < s.cfg.nTimers → s.timers[h.toNat]? = some t → t.created = true →
        (t.timeoutMs = 0 →
          exec (.tmrStart h) s = .next { s with out := s.out ++ [.response 0x0000000300000000] }) ∧
        (t.timeoutMs ≠ 0 →
          exec (.tmrStart h) s = .next
            { s with
              timers := s.timers.set h.toNat
                { t with
                  remaining := BitVec.ofNat 48 (max (msToTicks s.cfg t.timeoutMs) s.cfg.minTicks), state := .armed }
              out := s.out ++ [.response 0] })

/-- The countdown `TMR_START` loads is at least 1 and fits the 48 bits of `remaining` for every timeout. R95 (h) and R112 give
the converted part; that `MIN_TICKS` fits is the model's DEDUCED bound (log 3). -/
def Obligations.CountdownFitsItsRegister : Prop :=
  ∀ (c : Config) (ms : BitVec 32),
    1 ≤ max (msToTicks c ms) c.minTicks ∧
    (BitVec.ofNat 48 (max (msToTicks c ms) c.minTicks)).toNat = max (msToTicks c ms) c.minTicks

/-- R113, R116: `E_STATE` for an invalid handle; otherwise Idle with `remaining = 0`, on an Armed and on an Idle timer. -/
def Obligations.TmrStopCancelsTheCountdown : Prop :=
  ∀ h : Handle,
    encode (.tmrStop h) = 0x4300000000000000 ||| BitVec.setWidth 64 h <<< 32 ∧
    ∀ s : State,
      (s.cfg.nTimers ≤ h.toNat ∨ (∃ t, s.timers[h.toNat]? = some t ∧ t.created = false) →
        exec (.tmrStop h) s = .next { s with out := s.out ++ [.response 0x0000000100000000] }) ∧
      ∀ t, h.toNat < s.cfg.nTimers → s.timers[h.toNat]? = some t → t.created = true →
        exec (.tmrStop h) s = .next
          { s with
            timers := s.timers.set h.toNat { t with state := .idle, remaining := 0 }, out := s.out ++ [.response 0] }

/-- R115: the elapsed seconds, saturating at 0. -/
def Obligations.TmrElapsedSaturates : Prop :=
  ∀ (saved : BitVec 32) (s : State),
    encode (.tmrElapsed saved) = 0x4500000000000000 ||| BitVec.setWidth 64 saved ∧
    exec (.tmrElapsed saved) s = .next
      { s with out := s.out ++ [.response (BitVec.ofNat 64
        ((s.tsBase.toNat + s.counter.toNat / s.cfg.f) % 2 ^ 32 - saved.toNat))] }

/-! ## GPIO -/

/-- R126: `E_STATE` on a configured pin; otherwise the record of a freshly configured input or output; `HANDLER` untouched. -/
def Obligations.GpCfgConfiguresAnUnconfiguredPin : Prop :=
  ∀ (p : Pin) (mode : PinMode) (pull : Pull) (v : Bool),
    encode (.gpCfg p mode pull v) =
      0x5000000000000000 ||| BitVec.setWidth 64 (BitVec.ofBool v) <<< 40 ||| BitVec.setWidth 64 pull.code <<< 38 |||
        BitVec.setWidth 64 (BitVec.ofBool mode.code) <<< 37 ||| BitVec.setWidth 64 p <<< 32 ∧
    ∀ s : State,
      ((pin s p).initialized = true →
        exec (.gpCfg p mode pull v) s = .next { s with out := s.out ++ [.response 0x0000000100000000] }) ∧
      ((pin s p).initialized = false → mode = .input →
        exec (.gpCfg p mode pull v) s = .next
          { s with
            pins := s.pins.set p.toNat
              { initialized := true, mode := .input, pull := pull, senseToggle := true, irqMode := .none, evtEn := false,
                prio := 0, outLevel := false } p.isLt
            out := s.out ++ [.response 0] }) ∧
      ((pin s p).initialized = false → mode = .output →
        exec (.gpCfg p mode pull v) s = .next
          { s with
            pins := s.pins.set p.toNat
              { initialized := true, mode := .output, pull := pull, senseToggle := false, irqMode := .none, evtEn := false,
                prio := 0, outLevel := v } p.isLt
            out := s.out ++ [.response 0] })

/-- R127: `E_STATE` unless the pin is an input; otherwise the handler stored, the edge mode and priority stored, the event
enabled; on a previously armed pin the sensing is set up again. A term with the edge mode None is no legal command (R61 (d)). -/
def Obligations.GpArmStoresTheHandler : Prop :=
  ∀ (p : Pin) (e : Edge) (prio : BitVec 3) (t : Token), e ≠ .none →
    encode (.gpArm p e prio t) =
      0x5100000000000000 ||| BitVec.setWidth 64 prio <<< 48 ||| BitVec.setWidth 64 e.code <<< 41 |||
        BitVec.setWidth 64 p <<< 32 ||| BitVec.setWidth 64 t ∧
    ∀ s : State,
      ((pin s p).initialized = false ∨ (pin s p).mode ≠ .input →
        exec (.gpArm p e prio t) s = .next { s with out := s.out ++ [.response 0x0000000100000000] }) ∧
      ((pin s p).initialized = true → (pin s p).mode = .input →
        exec (.gpArm p e prio t) s = .next
          { s with
            handlers := s.handlers.set p.toNat t p.isLt
            pins := s.pins.set p.toNat
              { pin s p with
                irqMode := e, prio := prio, evtEn := true
                senseToggle := if (pin s p).irqMode = .none then (pin s p).senseToggle else true } p.isLt
            out := s.out ++ [.response 0] })

/-- R128: always `OK`, in every pin state; only `evt_en` is written. -/
def Obligations.GpDisarmKeepsTheHandler : Prop :=
  ∀ (p : Pin) (s : State),
    encode (.gpDisarm p) = 0x5200000000000000 ||| BitVec.setWidth 64 p <<< 32 ∧
    exec (.gpDisarm p) s = .next
      { s with pins := s.pins.set p.toNat { pin s p with evtEn := false } p.isLt, out := s.out ++ [.response 0] }

/-- R129, R130: `E_STATE` unless the pin is an output; otherwise the level written, or inverted. -/
def Obligations.GpWriteAndToggleDriveAnOutput : Prop :=
  ∀ (p : Pin) (v : Bool),
    encode (.gpWrite p v) =
      0x5300000000000000 ||| BitVec.setWidth 64 (BitVec.ofBool v) <<< 40 ||| BitVec.setWidth 64 p <<< 32 ∧
    encode (.gpToggle p) = 0x5400000000000000 ||| BitVec.setWidth 64 p <<< 32 ∧
    ∀ s : State,
      ((pin s p).initialized = false ∨ (pin s p).mode ≠ .output →
        exec (.gpWrite p v) s = .next { s with out := s.out ++ [.response 0x0000000100000000] } ∧
        exec (.gpToggle p) s = .next { s with out := s.out ++ [.response 0x0000000100000000] }) ∧
      ((pin s p).initialized = true → (pin s p).mode = .output →
        exec (.gpWrite p v) s = .next
          { s with pins := s.pins.set p.toNat { pin s p with outLevel := v } p.isLt, out := s.out ++ [.response 0] } ∧
        exec (.gpToggle p) s = .next
          { s with
            pins := s.pins.set p.toNat { pin s p with outLevel := !(pin s p).outLevel } p.isLt
            out := s.out ++ [.response 0] })

/-- R131: `E_STATE` unless the pin is an input; otherwise the pad's level, and nothing is written. -/
def Obligations.GpReadReturnsThePadLevel : Prop :=
  ∀ p : Pin,
    encode (.gpRead p) = 0x5500000000000000 ||| BitVec.setWidth 64 p <<< 32 ∧
    ∀ s : State,
      ((pin s p).initialized = false ∨ (pin s p).mode ≠ .input →
        exec (.gpRead p) s = .next { s with out := s.out ++ [.response 0x0000000100000000] }) ∧
      ((pin s p).initialized = true → (pin s p).mode = .input →
        exec (.gpRead p) s = .next
          { s with out := s.out ++ [.response (if level s p = true then 1 else 0)] })

/-- R132: `E_STATE` on an unconfigured pin; otherwise the whole record at its reset value, the handler kept. -/
def Obligations.GpDeinitReturnsThePinToReset : Prop :=
  ∀ p : Pin,
    encode (.gpDeinit p) = 0x5600000000000000 ||| BitVec.setWidth 64 p <<< 32 ∧
    ∀ s : State,
      ((pin s p).initialized = false →
        exec (.gpDeinit p) s = .next { s with out := s.out ++ [.response 0x0000000100000000] }) ∧
      ((pin s p).initialized = true →
        exec (.gpDeinit p) s = .next
          { s with
            pins := s.pins.set p.toNat
              { initialized := false, mode := .input, pull := .none, senseToggle := false, irqMode := .none,
                evtEn := false, prio := 0, outLevel := false } p.isLt
            out := s.out ++ [.response 0] })

/-- R125: the pin state machine. A GPIO command takes its own pin where the table says and leaves every other pin's record. -/
def Obligations.GpioCommandsFollowThePinStateMachine : Prop :=
  ∀ (i : Instr) (p : Pin) (s t : State), i.wellFormed = true → commandPin i = some p → exec i s = .next t →
    pinState (pin t p) = nextPinState (pinState (pin s p)) i ∧ ∀ q, q ≠ p → pin t q = pin s q

/-- R68: `GP_REARM` ends in the same state as `GP_ARM` alone, but for the response of the disarming command: on an input, and on
any other pin whose record is one that R21 allows, where `GP_ARM` answers `E_STATE`. -/
def Obligations.GpRearmEndsAsGpArm : Prop :=
  ∀ (p : Pin) (e : Edge) (prio : BitVec 3) (cb : Token) (s t : State), e ≠ .none → exec (.gpArm p e prio cb) s = .next t →
    (isInput s p = true →
      execAll (gpRearm p e prio cb) s = .next { t with out := s.out ++ [.response 0, .response 0] }) ∧
    (isInput s p = false → PinOk (pin s p) →
      execAll (gpRearm p e prio cb) s = .next
        { t with out := s.out ++ [.response 0, .response 0x0000000100000000] })

/-! ## Events -/

/-- R156: nothing while stopped; otherwise the overflow or the increment, then the one-shot match on the new count, with its
notification unless the token is null. -/
def Obligations.EvTickCountsAndMatches : Prop :=
  encode .evTick = 0xE000000000000000 ∧
  ∀ s : State,
    (s.ctrRun = false → exec .evTick s = .next s) ∧
    ∀ (c b : BitVec 32),
      s.ctrRun = true →
      c = (if s.counter.toNat = 2 ^ s.cfg.w - 1 then 0 else s.counter + 1) →
      b = (if s.counter.toNat = 2 ^ s.cfg.w - 1
        then BitVec.ofNat 32 (s.tsBase.toNat + (2 ^ s.cfg.w - 1) / s.cfg.f) else s.tsBase) →
      (s.cmpArmed = false ∨ c ≠ s.compare → exec .evTick s = .next { s with counter := c, tsBase := b }) ∧
      (s.cmpArmed = true → c = s.compare → s.wkCb = 0 →
        exec .evTick s = .next { s with counter := c, tsBase := b, cmpArmed := false }) ∧
      (s.cmpArmed = true → c = s.compare → s.wkCb ≠ 0 →
        exec .evTick s = .next
          { s with
            counter := c, tsBase := b, cmpArmed := false
            out := s.out ++ [.notification (0xF000010000000000 ||| BitVec.setWidth 64 s.wkCb)] })

/-- R157, R163 (b): every Armed slot counts down by one; the slots that reach 0 become Idle and notify their non-null callbacks
in ascending handle order; an Idle or free slot is not touched. -/
def Obligations.EvTmrtickCountsDownEverySlot : Prop :=
  encode .evTmrtick = 0xE100000000000000 ∧
  ∀ s : State, PoolOk s →
    exec .evTmrtick s = .next
      { s with
        timers := s.timers.map fun t =>
          if t.state = .armed then
            { t with remaining := t.remaining - 1, state := if t.remaining = 1 then .idle else .armed }
          else t
        out := s.out ++ s.timers.zipIdx.filterMap fun (t, h) =>
          if t.state = .armed ∧ t.remaining = 1 ∧ t.cb ≠ 0 then
            some (.notification (0xF000020000000000 ||| BitVec.ofNat 64 h <<< 32 ||| BitVec.setWidth 64 t.cb))
          else none }

/-- R159: the dispatch reads the handler of the pin and nothing else; a null handler is skipped. When the environment filters,
an event for a disabled pin or an edge that does not match has no step. -/
def Obligations.EvPinirqDispatchesTheHandler : Prop :=
  ∀ (p : Pin) (e : Edge), e = .rising ∨ e = .falling →
    encode (.evPinirq p e) = 0xE200000000000000 ||| BitVec.setWidth 64 e.code <<< 41 ||| BitVec.setWidth 64 p <<< 32 ∧
    ∀ s : State,
      (s.cfg.gpioEnvFiltered = false ∨ ((pin s p).evtEn = true ∧ (pin s p).irqMode.code &&& e.code ≠ 0) →
        (handler s p = 0 → exec (.evPinirq p e) s = .next s) ∧
        (handler s p ≠ 0 → exec (.evPinirq p e) s = .next
          { s with out := s.out ++ [.notification
            (0xF000030000000000 ||| BitVec.setWidth 64 p <<< 32 ||| BitVec.setWidth 64 (handler s p))] })) ∧
      (s.cfg.gpioEnvFiltered = true → ((pin s p).evtEn = false ∨ (pin s p).irqMode.code &&& e.code = 0) →
        exec (.evPinirq p e) s = .refused .filteredEvent)

/-- R160. -/
def Obligations.EvPinlvlSetsThePadLevel : Prop :=
  ∀ (p : Pin) (b : Bool) (s : State),
    encode (.evPinlvl p b) =
      0xE300000000000000 ||| BitVec.setWidth 64 (BitVec.ofBool b) <<< 40 ||| BitVec.setWidth 64 p <<< 32 ∧
    exec (.evPinlvl p b) s = .next { s with pinIn := s.pinIn.set p.toNat b p.isLt }

/-- R161. -/
def Obligations.EvHwokSetsTheHealthInput : Prop :=
  ∀ (ok : Bool) (s : State),
    encode (.evHwok ok) = 0xE400000000000000 ||| BitVec.setWidth 64 (BitVec.ofBool ok) <<< 40 ∧
    exec (.evHwok ok) s = .next { s with hwOk := ok }

/-- R91 (c), an inference the spec draws from R90 and R156: the timestamp is continuous at the instant of an overflow. -/
def Obligations.TimestampIsContinuousAcrossTheOverflow : Prop :=
  ∀ s t : State, s.ctrRun = true → s.counter.toNat = 2 ^ s.cfg.w - 1 → exec .evTick s = .next t →
    t.counter = 0 ∧ ts t = ts s

/-! ## Errors, outputs and who writes what -/

/-- R152, R153, R63, R151: every command answers exactly one response word, with the status the table gives, data 0 unless it
returns a value with `OK`; on every other status nothing else of the state changes. -/
def Obligations.CommandsAnswerTheTabledStatus : Prop :=
  ∀ (i : Instr) (s : State), i.wellFormed = true → i.port = .command → PoolOk s →
    ∃ (d : BitVec 32) (t : State),
      exec i s = .next t ∧
      t.out = s.out ++ [.response (BitVec.setWidth 64 (tableStatus i s).code <<< 32 ||| BitVec.setWidth 64 d)] ∧
      (tableStatus i s ≠ .ok ∨ returnsValue i = false → d = 0) ∧
      (tableStatus i s ≠ .ok ∨ (returnsValue i = true ∧ ∀ cb, i ≠ .tmrCreate cb) → t = { s with out := t.out })

/-- R166, R63, R158: an event produces no response: it appends NOTIFY words only, and none of them has a null token. -/
def Obligations.EventsOnlyNotify : Prop :=
  ∀ (i : Instr) (s t : State), i.port = .event → exec i s = .next t →
    ∃ ws : List Word, t.out = s.out ++ ws.map Output.notification ∧
      ∀ w ∈ ws, w >>> 56 = 0xF0 ∧ BitVec.setWidth 32 w ≠ 0

/-- R195: no well-formed stimulus is refused, `GPIO_ENV_FILTERED` aside: the block has no stuck state. -/
def Obligations.NoWellFormedStimulusIsRefused : Prop :=
  ∀ (i : Instr) (s : State), i.wellFormed = true → s.cfg.gpioEnvFiltered = false → ∃ t, exec i s = .next t

/-- R22: no other rule than `GP_ARM` and `EV_RESET` writes the handler table, and `GP_ARM` writes only its pin's entry. -/
def Obligations.OnlyArmAndResetWriteTheHandlers : Prop :=
  ∀ (i : Instr) (q : Pin) (s t : State), exec i s = .next t → handler t q ≠ handler s q →
    i = .evReset ∨ ∃ e prio cb, i = .gpArm q e prio cb ∧ handler t q = cb

/-- R23, R27: the environment-owned inputs are written only by their events, the parameters by nothing. The fields `cfg` and
`input` are the model's (log 1, log 4). -/
def Obligations.OnlyTheirEventsWriteTheInputs : Prop :=
  ∀ (i : Instr) (s t : State), exec i s = .next t →
    t.cfg = s.cfg ∧ t.input = s.input ∧
    (t.hwOk ≠ s.hwOk → ∃ ok, i = .evHwok ok) ∧
    (∀ q, level t q ≠ level s q → ∃ b, i = .evPinlvl q b)

/-- R154: reset aside, an event never writes `WK_CB`, a slot's `created`, `cb` or `timeout_ms`, a pin record or `HANDLER`; a
command never produces a NOTIFY word. -/
def Obligations.ContextsWriteOnlyWhatTheyMay : Prop :=
  ∀ (i : Instr) (s t : State), exec i s = .next t →
    (context i = .interrupt → i ≠ .evReset →
      t.wkCb = s.wkCb ∧ t.pins = s.pins ∧ t.handlers = s.handlers ∧
      t.timers.map (fun x => (x.created, x.cb, x.timeoutMs)) = s.timers.map (fun x => (x.created, x.cb, x.timeoutMs))) ∧
    (context i = .foreground → notifications t = notifications s)

/-- R20, R163 (c): the stored priority orders nothing and is read by no rule. Two states that differ in priorities only take the
same outcome, and their next states again differ in priorities only. -/
def Obligations.PrioritiesAreReadByNoRule : Prop :=
  ∀ s₁ s₂ : State, forgetPriorities s₁ = forgetPriorities s₂ →
    (∀ t₁, step s₁ = .next t₁ → ∃ t₂, step s₂ = .next t₂ ∧ forgetPriorities t₁ = forgetPriorities t₂) ∧
    (∀ r, step s₁ = .refused r → step s₂ = .refused r)

/-- R102: an outstanding wakeup request becomes inactive only by firing, by `CTR_SETCMP` with `flag = 0`, or by `EV_RESET`. -/
def Obligations.RequestEndsByFiringOrCancelling : Prop :=
  ∀ (i : Instr) (s t : State), StoppedAtReset s → exec i s = .next t → s.cmpArmed = true → t.cmpArmed = false →
    (i = .evTick ∧ s.ctrRun = true ∧ t.counter = s.compare) ∨ (∃ d, i = .ctrSetcmp d false) ∨ i = .evReset

/-- R117: a slot becomes created only by `TMR_CREATE`, and then Idle, and stays created until `EV_RESET`; an Armed one becomes
Idle only by `TMR_STOP` on its handle, by its expiry in `EV_TMRTICK`, or by `EV_RESET`; only a created Idle one becomes Armed,
and only by `TMR_START` on its handle. -/
def Obligations.TimersFollowTheirLifecycle : Prop :=
  ∀ (i : Instr) (h : Handle) (s t : State), PoolOk s → exec i s = .next t →
    ((slot s h).created = false → (slot t h).created = true →
      (∃ cb, i = .tmrCreate cb) ∧ (slot t h).state = .idle) ∧
    ((slot s h).created = true → (slot t h).created = false → i = .evReset) ∧
    ((slot s h).state = .armed → (slot t h).state = .idle →
      i = .tmrStop h ∨ (i = .evTmrtick ∧ (slot s h).remaining = 1) ∨ i = .evReset) ∧
    ((slot s h).state = .idle → (slot t h).state = .armed → i = .tmrStart h ∧ (slot s h).created = true)

/-- R42, R43: byte `k` of a word holds its bits `8k + 7 : 8k`, so byte 7 is the opcode; a trace of words, serialised and read
back, is the same words, word `k` at offset `8 * k`. -/
def Obligations.TraceReadsBackTheWords : Prop :=
  (∀ (w : Word), ∀ k < 8, (wordBytes w)[k]? = some (BitVec.setWidth 8 (w >>> (8 * k)))) ∧
  ∀ ws : List Word, traceWords (traceBytes ws) = some ws ∧ (traceBytes ws).length = 8 * ws.length ∧
    ∀ k, (h : k < ws.length) → (traceBytes ws).extract (8 * k) (8 * k + 8) = wordBytes ws[k]

/-! ## The invariant -/

/-- The invariant holds after reset, for every choice of the parameters and every draw of `HW_OK` and `PIN_IN`. -/
def Obligations.PowerUpMeetsTheInvariant : Prop :=
  Inv State.reset ∧ ∀ (c : Config) (hwOk : Bool) (pinIn : Vector Bool 32), Inv (State.powerUp c hwOk pinIn)

/-- R15, R18, R19, R20, R21, R80: from every state that meets the invariant, a step leads to one that meets it. That a started
timer has `remaining ≥ 1` leans on the model's bound on `MIN_TICKS` (log 3). -/
def Obligations.EveryStepKeepsTheBlockWellFormed : Prop :=
  ∀ s t : State, Inv s → step s = .next t → Inv t

/-! ## Runs -/

/-- R94: over any run without `CLK_UPDATE` and `EV_RESET`, the base grows by `OVF_INC` for each overflowing tick, modulo `2^32`,
and by nothing else. -/
def Obligations.BaseCountsTheOverflows : Prop :=
  ∀ (n : Nat) (s t : State),
    (∀ x ∈ s.input.take n, (∀ b, stimulusInstr x ≠ some (.clkUpdate b)) ∧ stimulusInstr x ≠ some .evReset) →
    Host.Core.run Sys2Proof.core n s = .next t →
    t.tsBase = BitVec.ofNat 32 (s.tsBase.toNat + overflowCount n s * ((2 ^ s.cfg.w - 1) / s.cfg.f))

/-- L1-2: from a running counter at 0, after `k` full periods of ticks the counter is at 0 again and the base has grown by
`k * OVF_INC`. -/
def Obligations.FullPeriodsAccumulate : Prop :=
  ∀ (k : Nat) (s : State) (rest : List Stimulus), s.ctrRun = true → s.counter = 0 →
    s.input = List.replicate (k * 2 ^ s.cfg.w) counterTick ++ rest →
    ∃ t, Host.Core.run Sys2Proof.core (k * 2 ^ s.cfg.w) s = .next t ∧ t.counter = 0 ∧ t.input = rest ∧
      t.tsBase = BitVec.ofNat 32 (s.tsBase.toNat + k * ((2 ^ s.cfg.w - 1) / s.cfg.f))

/-- R93: over any run in which nothing but counting changes the time and the 32-bit sum does not wrap, the timestamp does not
decrease. -/
def Obligations.TimestampDoesNotDecrease : Prop :=
  ∀ (n : Nat) (s t : State), CounterInRange s →
    (∀ x ∈ s.input.take n, ∀ i, stimulusInstr x = some i → rewritesTime i = false) →
    Host.Core.run Sys2Proof.core n s = .next t →
    s.tsBase.toNat + overflowCount n s * ((2 ^ s.cfg.w - 1) / s.cfg.f) + t.counter.toNat / s.cfg.f < 2 ^ 32 →
    (ts s).toNat ≤ (ts t).toNat

/-- R102, and R103 as the spec infers it: an armed wakeup fires on the `N`-th tick and on none before it,
`N = ((COMPARE - t - 1) mod 2^W) + 1`; it notifies the registered callback exactly once and is inactive afterwards. -/
def Obligations.WakeupFiresOnceAfterTheRulesTicks : Prop :=
  ∀ (s : State) (rest : List Stimulus), CounterInRange s → s.ctrRun = true → s.cmpArmed = true → s.wkCb ≠ 0 →
    s.input = List.replicate (ticksToMatch s) counterTick ++ rest →
    (∀ n < ticksToMatch s, ∃ t, Host.Core.run Sys2Proof.core n s = .next t ∧ t.cmpArmed = true ∧ t.out = s.out) ∧
    ∃ t, Host.Core.run Sys2Proof.core (ticksToMatch s) s = .next t ∧ t.cmpArmed = false ∧ t.counter = s.compare ∧
      t.out = s.out ++ [.notification (0xF000010000000000 ||| BitVec.setWidth 64 s.wkCb)]

/-- R157 (c): an Armed slot with `remaining = n` stays Armed for `n - 1` timer ticks and expires on the `n`-th, which notifies
its non-null callback. -/
def Obligations.TimerExpiresOnItsLastTick : Prop :=
  ∀ (s : State) (h : Nat) (x : TimerSlot) (rest : List Stimulus),
    PoolOk s → s.timers[h]? = some x → x.state = .armed → x.cb ≠ 0 →
    s.input = List.replicate x.remaining.toNat timerTick ++ rest →
    (∀ n < x.remaining.toNat, ∃ t, Host.Core.run Sys2Proof.core n s = .next t ∧
      t.timers[h]? = some { x with remaining := x.remaining - BitVec.ofNat 48 n } ∧
      Output.notification (0xF000020000000000 ||| BitVec.ofNat 64 h <<< 32 ||| BitVec.setWidth 64 x.cb)
        ∉ t.out.drop s.out.length) ∧
    ∃ t, Host.Core.run Sys2Proof.core x.remaining.toNat s = .next t ∧
      t.timers[h]? = some { x with state := .idle, remaining := 0 } ∧
      Output.notification (0xF000020000000000 ||| BitVec.ofNat 64 h <<< 32 ||| BitVec.setWidth 64 x.cb)
        ∈ t.out.drop s.out.length

/-- R195: the block has no halt and no stuck state. Every infinite sequence of stimuli none of which is malformed makes an
infinite run, where the environment does not filter; `EV_PINIRQ` under the filter is left to `EvPinirqDispatchesTheHandler`. -/
def Obligations.EveryStimulusSequenceMakesAnInfiniteRun : Prop :=
  ∀ (xs : Nat → Stimulus) (s : State), s.cfg.gpioEnvFiltered = false →
    (∀ n why, decode (xs n).port (xs n).word ≠ .refused why) →
    ∃ states, IsRunFrom s xs states .infinite

/-- The first `n` stimuli of a run, waiting in the state, take the machine to the state the run has after `n` steps (R45, R195;
that stimuli wait in the state is the model's choice, log 4). -/
def Obligations.RunsAreRunsOfTheMachine : Prop :=
  ∀ (n : Nat) (s : State) (xs : Nat → Stimulus) (states : Nat → State) (extent : Extent),
    IsRunFrom s xs states extent → (∀ k < n, extent.hasStep k) →
    Host.Core.run Sys2Proof.core n { s with input := (List.range n).map xs ++ s.input } = .next (states n)

/-- R24, R46, R51, R63, R195: along a run no word of either stream is withdrawn, a command adds exactly one response word and no
NOTIFY word, an event adds no response word, and the exported configuration is observed in every state of the run. -/
def Obligations.ObservationsOnlyGrow : Prop :=
  ∀ (s : State) (xs : Nat → Stimulus) (states : Nat → State) (extent : Extent) (n : Nat),
    IsRunFrom s xs states extent → (∀ k ≤ n, extent.hasStep k) →
    (observe states n).exported ++ [(states (n + 1)).exports] = (observe states (n + 1)).exported ∧
    (∃ ws, (observe states (n + 1)).responses = (observe states n).responses ++ ws ∧
      ws.length = if (xs n).port = .command then 1 else 0) ∧
    ∃ ws, (observe states (n + 1)).notifications = (observe states n).notifications ++ ws ∧
      ((xs n).port = .command → ws = [])
end

