-- ==== Sys2Proof/Laws/Encoding.lean ====
section
/-! SUPPORT. The encoder's layout read back field by field (R56), and the codes read back (R20, R56, R58). -/

namespace Sys2Proof

section Layout

variable (op : BitVec 8) (prio : BitVec 3) (edge : BitVec 2) (flag : Bool) (low : BitVec 8) (data : BitVec 32)

/-- The layout as shifted fields, the form in which the encoding paragraphs of R80 to R161 write a word. -/
theorem layout_eq_or : layout op prio edge flag low data =
    BitVec.setWidth 64 op <<< 56 ||| BitVec.setWidth 64 prio <<< 48 ||| BitVec.setWidth 64 edge <<< 41 |||
    BitVec.setWidth 64 (BitVec.ofBool flag) <<< 40 ||| BitVec.setWidth 64 low <<< 32 ||| BitVec.setWidth 64 data := by
  apply BitVec.eq_of_getLsbD_eq
  intro i hi
  simp only [layout, BitVec.getLsbD_append, BitVec.getLsbD_or, BitVec.getLsbD_shiftLeft, BitVec.getLsbD_setWidth]
  interval_cases i <;> simp

theorem fieldOp_layout : fieldOp (layout op prio edge flag low data) = op := by
  apply BitVec.eq_of_getLsbD_eq
  intro i hi
  simp only [fieldOp, layout, BitVec.getLsbD_extractLsb', BitVec.getLsbD_append]
  interval_cases i <;> simp

theorem fieldPrio_layout : fieldPrio (layout op prio edge flag low data) = prio := by
  apply BitVec.eq_of_getLsbD_eq
  intro i hi
  simp only [fieldPrio, layout, BitVec.getLsbD_extractLsb', BitVec.getLsbD_append]
  interval_cases i <;> simp

theorem fieldEdge_layout : fieldEdge (layout op prio edge flag low data) = Edge.ofCode edge := by
  unfold fieldEdge
  congr 1
  apply BitVec.eq_of_getLsbD_eq
  intro i hi
  simp only [layout, BitVec.getLsbD_extractLsb', BitVec.getLsbD_append]
  interval_cases i <;> simp

theorem fieldFlag_layout : fieldFlag (layout op prio edge flag low data) = flag := by
  simp only [fieldFlag, layout, BitVec.getLsbD_append]
  simp

theorem fieldIdx_layout : fieldIdx (layout op prio edge flag low data) = low := by
  apply BitVec.eq_of_getLsbD_eq
  intro i hi
  simp only [fieldIdx, layout, BitVec.getLsbD_extractLsb', BitVec.getLsbD_append]
  interval_cases i <;> simp

theorem fieldData_layout : fieldData (layout op prio edge flag low data) = data := by
  apply BitVec.eq_of_getLsbD_eq
  intro i hi
  simp only [fieldData, layout, BitVec.getLsbD_extractLsb', BitVec.getLsbD_append]
  interval_cases i <;> simp

end Layout

section PinBits

variable (pull : BitVec 2) (mode : Bool) (p : Pin)

theorem pinBits_eq_or : BitVec.setWidth 64 (pinBits pull mode p) =
    BitVec.setWidth 64 pull <<< 6 ||| BitVec.setWidth 64 (BitVec.ofBool mode) <<< 5 ||| BitVec.setWidth 64 p := by
  apply BitVec.eq_of_getLsbD_eq
  intro i hi
  simp only [pinBits, BitVec.getLsbD_append, BitVec.getLsbD_or, BitVec.getLsbD_shiftLeft, BitVec.getLsbD_setWidth]
  interval_cases i <;> simp

/-- Bits 39:32 of a GPIO word as the fields of R56. -/
theorem pinBits_shifted : BitVec.setWidth 64 (pinBits pull mode p) <<< 32 =
    BitVec.setWidth 64 pull <<< 38 ||| BitVec.setWidth 64 (BitVec.ofBool mode) <<< 37 ||| BitVec.setWidth 64 p <<< 32 := by
  apply BitVec.eq_of_getLsbD_eq
  intro i hi
  simp only [pinBits, BitVec.getLsbD_append, BitVec.getLsbD_or, BitVec.getLsbD_shiftLeft, BitVec.getLsbD_setWidth]
  interval_cases i <;> simp

/-- The pin field of a word is the low five bits of its `idx` field (R12, R56). -/
theorem fieldPin_eq (w : Word) : fieldPin w = (fieldIdx w).extractLsb' 0 5 := by
  apply BitVec.eq_of_getLsbD_eq
  intro i hi
  simp only [fieldPin, fieldIdx, BitVec.getLsbD_extractLsb']
  interval_cases i <;> simp

theorem fieldMode_eq (w : Word) : fieldMode w = PinMode.ofCode ((fieldIdx w).getLsbD 5) := by
  simp [fieldMode, fieldIdx]

theorem fieldPull_eq (w : Word) : fieldPull w = Pull.ofCode ((fieldIdx w).extractLsb' 6 2) := by
  unfold fieldPull
  congr 1
  apply BitVec.eq_of_getLsbD_eq
  intro i hi
  simp only [fieldIdx, BitVec.getLsbD_extractLsb']
  interval_cases i <;> simp

theorem pinBits_pin : (pinBits pull mode p).extractLsb' 0 5 = p := by
  apply BitVec.eq_of_getLsbD_eq
  intro i hi
  simp only [pinBits, BitVec.getLsbD_extractLsb', BitVec.getLsbD_append]
  interval_cases i <;> simp

theorem pinBits_mode : (pinBits pull mode p).getLsbD 5 = mode := by
  simp only [pinBits, BitVec.getLsbD_append]
  simp

theorem pinBits_pull : (pinBits pull mode p).extractLsb' 6 2 = pull := by
  apply BitVec.eq_of_getLsbD_eq
  intro i hi
  simp only [pinBits, BitVec.getLsbD_extractLsb', BitVec.getLsbD_append]
  interval_cases i <;> simp

end PinBits

@[simp] theorem PinMode.ofCode_code (m : PinMode) : PinMode.ofCode m.code = m := by cases m <;> rfl

@[simp] theorem PinMode.code_ofCode (b : Bool) : (PinMode.ofCode b).code = b := by cases b <;> rfl

@[simp] theorem Pull.ofCode_code (u : Pull) : Pull.ofCode u.code = some u := by cases u <;> rfl

theorem Pull.code_of_ofCode {c : BitVec 2} {u : Pull} (h : Pull.ofCode c = some u) : u.code = c := by
  revert h
  revert u c
  decide +revert

@[simp] theorem Edge.ofCode_code (e : Edge) : Edge.ofCode e.code = e := by cases e <;> rfl

@[simp] theorem Edge.code_ofCode (c : BitVec 2) : (Edge.ofCode c).code = c := by
  revert c
  decide

/-- Each row is found under its own opcode on its own port (R58, R69). -/
theorem Op.ofCode_code (o : Op) : Op.ofCode o.port o.code = some o := by cases o <;> decide

/-- A row that is found has the opcode and the port it was looked for under. -/
theorem Op.of_ofCode {p : Port} {c : BitVec 8} {o : Op} (h : Op.ofCode p c = some o) : o.code = c ∧ o.port = p := by
  simpa using List.find?_some h

/-- Every row is in the table. -/
theorem Op.mem_all (o : Op) : o ∈ Op.all := by cases o <;> decide

/-- No two rows of the table have the same opcode (R58). -/
theorem Op.code_injective : ∀ a ∈ Op.all, ∀ b ∈ Op.all, a.code = b.code → a = b := by decide

end Sys2Proof
end

