-- ==== Sys2Proof/Laws/Masks.lean ====
section
/-! SUPPORT. A word of each format under the mask of its format (R57). -/

namespace Sys2Proof.Laws

/-- A mask of R57 keeps the opcode, masks out the fields it leaves to the format, and tests the reserved bits, which are 0. -/
theorem layout_and_mask (op : BitVec 8) (prio mp : BitVec 3) (edge me : BitVec 2) (flag mf : Bool) (low ml : BitVec 8)
    (data md : BitVec 32) :
    layout op prio edge flag low data &&&
      (0xFF#8 ++ 0x1F#5 ++ mp ++ 0x1F#5 ++ me ++ BitVec.ofBool mf ++ ml ++ md : Word) =
    layout op (prio &&& mp) (edge &&& me) (flag && mf) (low &&& ml) (data &&& md) := by
  apply BitVec.eq_of_getLsbD_eq
  intro i hi
  simp only [layout, BitVec.getLsbD_and, BitVec.getLsbD_append]
  interval_cases i <;> simp

/-- Bits 39:37 of a `pin` field alone are 0. -/
theorem pinBits_and (p : Pin) : pinBits 0#2 false p &&& 224#8 = 0#8 := by
  revert p
  decide

/-- The match value is the layout with every field 0 (R57). -/
theorem matchWord_eq (o : Op) : o.matchWord = layout o.code 0 0 false 0 0 := by cases o <;> decide

theorem maskZ_layout (op : BitVec 8) :
    layout op 0 0 false 0 0 &&& Format.mask .Z = layout op 0 0 false 0 0 := by
  rw [show Format.mask .Z =
    (0xFF#8 ++ 0x1F#5 ++ 7#3 ++ 0x1F#5 ++ 3#2 ++ BitVec.ofBool true ++ 255#8 ++ 0xffffffff#32 : Word) from by decide, layout_and_mask]
  simp

theorem maskC_layout (op : BitVec 8) (flag : Bool) (data : BitVec 32) :
    layout op 0 0 flag 0 data &&& Format.mask .C = layout op 0 0 false 0 0 := by
  rw [show Format.mask .C =
    (0xFF#8 ++ 0x1F#5 ++ 7#3 ++ 0x1F#5 ++ 3#2 ++ BitVec.ofBool false ++ 255#8 ++ 0x0#32 : Word) from by decide, layout_and_mask]
  simp

theorem maskD_layout (op : BitVec 8) (data : BitVec 32) :
    layout op 0 0 false 0 data &&& Format.mask .D = layout op 0 0 false 0 0 := by
  rw [show Format.mask .D =
    (0xFF#8 ++ 0x1F#5 ++ 7#3 ++ 0x1F#5 ++ 3#2 ++ BitVec.ofBool true ++ 255#8 ++ 0x0#32 : Word) from by decide, layout_and_mask]
  simp

theorem maskHD_layout (op : BitVec 8) (low : BitVec 8) (data : BitVec 32) :
    layout op 0 0 false low data &&& Format.mask .HD = layout op 0 0 false 0 0 := by
  rw [show Format.mask .HD =
    (0xFF#8 ++ 0x1F#5 ++ 7#3 ++ 0x1F#5 ++ 3#2 ++ BitVec.ofBool true ++ 0#8 ++ 0x0#32 : Word) from by decide, layout_and_mask]
  simp

theorem maskH_layout (op : BitVec 8) (low : BitVec 8) :
    layout op 0 0 false low 0 &&& Format.mask .H = layout op 0 0 false 0 0 := by
  rw [show Format.mask .H =
    (0xFF#8 ++ 0x1F#5 ++ 7#3 ++ 0x1F#5 ++ 3#2 ++ BitVec.ofBool true ++ 0#8 ++ 0xffffffff#32 : Word) from by decide, layout_and_mask]
  simp

theorem maskPC_layout (op : BitVec 8) (flag : Bool) (low : BitVec 8) :
    layout op 0 0 flag low 0 &&& Format.mask .PC = layout op 0 0 false 0 0 := by
  rw [show Format.mask .PC =
    (0xFF#8 ++ 0x1F#5 ++ 7#3 ++ 0x1F#5 ++ 3#2 ++ BitVec.ofBool false ++ 0#8 ++ 0xffffffff#32 : Word) from by decide, layout_and_mask]
  simp

theorem maskPA_layout (op : BitVec 8) (prio : BitVec 3) (edge : BitVec 2) (p : Pin) (data : BitVec 32) :
    layout op prio edge false (pinBits 0 false p) data &&& Format.mask .PA = layout op 0 0 false 0 0 := by
  rw [show Format.mask .PA =
    (0xFF#8 ++ 0x1F#5 ++ 0#3 ++ 0x1F#5 ++ 0#2 ++ BitVec.ofBool true ++ 224#8 ++ 0x0#32 : Word) from by decide, layout_and_mask]
  simp [pinBits_and]

theorem maskP_layout (op : BitVec 8) (p : Pin) :
    layout op 0 0 false (pinBits 0 false p) 0 &&& Format.mask .P = layout op 0 0 false 0 0 := by
  rw [show Format.mask .P =
    (0xFF#8 ++ 0x1F#5 ++ 7#3 ++ 0x1F#5 ++ 3#2 ++ BitVec.ofBool true ++ 224#8 ++ 0xffffffff#32 : Word) from by decide, layout_and_mask]
  simp [pinBits_and]

theorem maskPW_layout (op : BitVec 8) (flag : Bool) (p : Pin) :
    layout op 0 0 flag (pinBits 0 false p) 0 &&& Format.mask .PW = layout op 0 0 false 0 0 := by
  rw [show Format.mask .PW =
    (0xFF#8 ++ 0x1F#5 ++ 7#3 ++ 0x1F#5 ++ 3#2 ++ BitVec.ofBool false ++ 224#8 ++ 0xffffffff#32 : Word) from by decide, layout_and_mask]
  simp [pinBits_and]

theorem maskEP_layout (op : BitVec 8) (edge : BitVec 2) (p : Pin) :
    layout op 0 edge false (pinBits 0 false p) 0 &&& Format.mask .EP = layout op 0 0 false 0 0 := by
  rw [show Format.mask .EP =
    (0xFF#8 ++ 0x1F#5 ++ 7#3 ++ 0x1F#5 ++ 0#2 ++ BitVec.ofBool true ++ 224#8 ++ 0xffffffff#32 : Word) from by decide, layout_and_mask]
  simp [pinBits_and]

theorem maskF_layout (op : BitVec 8) (flag : Bool) :
    layout op 0 0 flag 0 0 &&& Format.mask .F = layout op 0 0 false 0 0 := by
  rw [show Format.mask .F =
    (0xFF#8 ++ 0x1F#5 ++ 7#3 ++ 0x1F#5 ++ 3#2 ++ BitVec.ofBool false ++ 255#8 ++ 0xffffffff#32 : Word) from by decide, layout_and_mask]
  simp

end Sys2Proof.Laws
end

