-- ==== Sys2Proof/Laws/State.lean ====
section
/-! SUPPORT. One lemma per field of State per named update: what the update leaves in that field (R7, R158, R180). -/

namespace Sys2Proof.Machine

variable (s : State)

@[simp] theorem respond_cfg (st : Status) (d : BitVec 32) : (respond st d s).cfg = s.cfg := rfl
@[simp] theorem respond_ctrRun (st : Status) (d : BitVec 32) : (respond st d s).ctrRun = s.ctrRun := rfl
@[simp] theorem respond_counter (st : Status) (d : BitVec 32) : (respond st d s).counter = s.counter := rfl
@[simp] theorem respond_compare (st : Status) (d : BitVec 32) : (respond st d s).compare = s.compare := rfl
@[simp] theorem respond_cmpArmed (st : Status) (d : BitVec 32) : (respond st d s).cmpArmed = s.cmpArmed := rfl
@[simp] theorem respond_tsBase (st : Status) (d : BitVec 32) : (respond st d s).tsBase = s.tsBase := rfl
@[simp] theorem respond_wkCb (st : Status) (d : BitVec 32) : (respond st d s).wkCb = s.wkCb := rfl
@[simp] theorem respond_timers (st : Status) (d : BitVec 32) : (respond st d s).timers = s.timers := rfl
@[simp] theorem respond_pins (st : Status) (d : BitVec 32) : (respond st d s).pins = s.pins := rfl
@[simp] theorem respond_handlers (st : Status) (d : BitVec 32) : (respond st d s).handlers = s.handlers := rfl
@[simp] theorem respond_hwOk (st : Status) (d : BitVec 32) : (respond st d s).hwOk = s.hwOk := rfl
@[simp] theorem respond_pinIn (st : Status) (d : BitVec 32) : (respond st d s).pinIn = s.pinIn := rfl
@[simp] theorem respond_input (st : Status) (d : BitVec 32) : (respond st d s).input = s.input := rfl
@[simp] theorem respond_out (st : Status) (d : BitVec 32) : (respond st d s).out = s.out ++ [.response (responseWord st d)] := rfl

@[simp] theorem raise_cfg (e : Status) : (raise e s).cfg = s.cfg := rfl
@[simp] theorem raise_ctrRun (e : Status) : (raise e s).ctrRun = s.ctrRun := rfl
@[simp] theorem raise_counter (e : Status) : (raise e s).counter = s.counter := rfl
@[simp] theorem raise_compare (e : Status) : (raise e s).compare = s.compare := rfl
@[simp] theorem raise_cmpArmed (e : Status) : (raise e s).cmpArmed = s.cmpArmed := rfl
@[simp] theorem raise_tsBase (e : Status) : (raise e s).tsBase = s.tsBase := rfl
@[simp] theorem raise_wkCb (e : Status) : (raise e s).wkCb = s.wkCb := rfl
@[simp] theorem raise_timers (e : Status) : (raise e s).timers = s.timers := rfl
@[simp] theorem raise_pins (e : Status) : (raise e s).pins = s.pins := rfl
@[simp] theorem raise_handlers (e : Status) : (raise e s).handlers = s.handlers := rfl
@[simp] theorem raise_hwOk (e : Status) : (raise e s).hwOk = s.hwOk := rfl
@[simp] theorem raise_pinIn (e : Status) : (raise e s).pinIn = s.pinIn := rfl
@[simp] theorem raise_input (e : Status) : (raise e s).input = s.input := rfl
@[simp] theorem raise_out (e : Status) : (raise e s).out = s.out ++ [.response (responseWord e 0)] := rfl

@[simp] theorem notify_cfg (k : NotifyKind) (i : BitVec 8) (c : Token) : (notify k i c s).cfg = s.cfg := rfl
@[simp] theorem notify_ctrRun (k : NotifyKind) (i : BitVec 8) (c : Token) : (notify k i c s).ctrRun = s.ctrRun := rfl
@[simp] theorem notify_counter (k : NotifyKind) (i : BitVec 8) (c : Token) : (notify k i c s).counter = s.counter := rfl
@[simp] theorem notify_compare (k : NotifyKind) (i : BitVec 8) (c : Token) : (notify k i c s).compare = s.compare := rfl
@[simp] theorem notify_cmpArmed (k : NotifyKind) (i : BitVec 8) (c : Token) : (notify k i c s).cmpArmed = s.cmpArmed := rfl
@[simp] theorem notify_tsBase (k : NotifyKind) (i : BitVec 8) (c : Token) : (notify k i c s).tsBase = s.tsBase := rfl
@[simp] theorem notify_wkCb (k : NotifyKind) (i : BitVec 8) (c : Token) : (notify k i c s).wkCb = s.wkCb := rfl
@[simp] theorem notify_timers (k : NotifyKind) (i : BitVec 8) (c : Token) : (notify k i c s).timers = s.timers := rfl
@[simp] theorem notify_pins (k : NotifyKind) (i : BitVec 8) (c : Token) : (notify k i c s).pins = s.pins := rfl
@[simp] theorem notify_handlers (k : NotifyKind) (i : BitVec 8) (c : Token) : (notify k i c s).handlers = s.handlers := rfl
@[simp] theorem notify_hwOk (k : NotifyKind) (i : BitVec 8) (c : Token) : (notify k i c s).hwOk = s.hwOk := rfl
@[simp] theorem notify_pinIn (k : NotifyKind) (i : BitVec 8) (c : Token) : (notify k i c s).pinIn = s.pinIn := rfl
@[simp] theorem notify_input (k : NotifyKind) (i : BitVec 8) (c : Token) : (notify k i c s).input = s.input := rfl
@[simp] theorem notify_out (k : NotifyKind) (i : BitVec 8) (c : Token) : (notify k i c s).out = s.out ++ notices k i c := rfl

@[simp] theorem answerIllegal_cfg : (answerIllegal s).cfg = s.cfg := rfl
@[simp] theorem answerIllegal_ctrRun : (answerIllegal s).ctrRun = s.ctrRun := rfl
@[simp] theorem answerIllegal_counter : (answerIllegal s).counter = s.counter := rfl
@[simp] theorem answerIllegal_compare : (answerIllegal s).compare = s.compare := rfl
@[simp] theorem answerIllegal_cmpArmed : (answerIllegal s).cmpArmed = s.cmpArmed := rfl
@[simp] theorem answerIllegal_tsBase : (answerIllegal s).tsBase = s.tsBase := rfl
@[simp] theorem answerIllegal_wkCb : (answerIllegal s).wkCb = s.wkCb := rfl
@[simp] theorem answerIllegal_timers : (answerIllegal s).timers = s.timers := rfl
@[simp] theorem answerIllegal_pins : (answerIllegal s).pins = s.pins := rfl
@[simp] theorem answerIllegal_handlers : (answerIllegal s).handlers = s.handlers := rfl
@[simp] theorem answerIllegal_hwOk : (answerIllegal s).hwOk = s.hwOk := rfl
@[simp] theorem answerIllegal_pinIn : (answerIllegal s).pinIn = s.pinIn := rfl
@[simp] theorem answerIllegal_input : (answerIllegal s).input = s.input := rfl
@[simp] theorem answerIllegal_out : (answerIllegal s).out = s.out ++ [.response (responseWord .eIllegal 0)] := rfl

@[simp] theorem setPin_cfg (p : Pin) (r : PinRecord) : (setPin s p r).cfg = s.cfg := rfl
@[simp] theorem setPin_ctrRun (p : Pin) (r : PinRecord) : (setPin s p r).ctrRun = s.ctrRun := rfl
@[simp] theorem setPin_counter (p : Pin) (r : PinRecord) : (setPin s p r).counter = s.counter := rfl
@[simp] theorem setPin_compare (p : Pin) (r : PinRecord) : (setPin s p r).compare = s.compare := rfl
@[simp] theorem setPin_cmpArmed (p : Pin) (r : PinRecord) : (setPin s p r).cmpArmed = s.cmpArmed := rfl
@[simp] theorem setPin_tsBase (p : Pin) (r : PinRecord) : (setPin s p r).tsBase = s.tsBase := rfl
@[simp] theorem setPin_wkCb (p : Pin) (r : PinRecord) : (setPin s p r).wkCb = s.wkCb := rfl
@[simp] theorem setPin_timers (p : Pin) (r : PinRecord) : (setPin s p r).timers = s.timers := rfl
@[simp] theorem setPin_pins (p : Pin) (r : PinRecord) : (setPin s p r).pins = s.pins.set p.toNat r p.isLt := rfl
@[simp] theorem setPin_handlers (p : Pin) (r : PinRecord) : (setPin s p r).handlers = s.handlers := rfl
@[simp] theorem setPin_hwOk (p : Pin) (r : PinRecord) : (setPin s p r).hwOk = s.hwOk := rfl
@[simp] theorem setPin_pinIn (p : Pin) (r : PinRecord) : (setPin s p r).pinIn = s.pinIn := rfl
@[simp] theorem setPin_input (p : Pin) (r : PinRecord) : (setPin s p r).input = s.input := rfl
@[simp] theorem setPin_out (p : Pin) (r : PinRecord) : (setPin s p r).out = s.out := rfl

@[simp] theorem setHandler_cfg (p : Pin) (c : Token) : (setHandler s p c).cfg = s.cfg := rfl
@[simp] theorem setHandler_ctrRun (p : Pin) (c : Token) : (setHandler s p c).ctrRun = s.ctrRun := rfl
@[simp] theorem setHandler_counter (p : Pin) (c : Token) : (setHandler s p c).counter = s.counter := rfl
@[simp] theorem setHandler_compare (p : Pin) (c : Token) : (setHandler s p c).compare = s.compare := rfl
@[simp] theorem setHandler_cmpArmed (p : Pin) (c : Token) : (setHandler s p c).cmpArmed = s.cmpArmed := rfl
@[simp] theorem setHandler_tsBase (p : Pin) (c : Token) : (setHandler s p c).tsBase = s.tsBase := rfl
@[simp] theorem setHandler_wkCb (p : Pin) (c : Token) : (setHandler s p c).wkCb = s.wkCb := rfl
@[simp] theorem setHandler_timers (p : Pin) (c : Token) : (setHandler s p c).timers = s.timers := rfl
@[simp] theorem setHandler_pins (p : Pin) (c : Token) : (setHandler s p c).pins = s.pins := rfl
@[simp] theorem setHandler_handlers (p : Pin) (c : Token) : (setHandler s p c).handlers = s.handlers.set p.toNat c p.isLt := rfl
@[simp] theorem setHandler_hwOk (p : Pin) (c : Token) : (setHandler s p c).hwOk = s.hwOk := rfl
@[simp] theorem setHandler_pinIn (p : Pin) (c : Token) : (setHandler s p c).pinIn = s.pinIn := rfl
@[simp] theorem setHandler_input (p : Pin) (c : Token) : (setHandler s p c).input = s.input := rfl
@[simp] theorem setHandler_out (p : Pin) (c : Token) : (setHandler s p c).out = s.out := rfl

@[simp] theorem setLevel_cfg (p : Pin) (b : Bool) : (setLevel s p b).cfg = s.cfg := rfl
@[simp] theorem setLevel_ctrRun (p : Pin) (b : Bool) : (setLevel s p b).ctrRun = s.ctrRun := rfl
@[simp] theorem setLevel_counter (p : Pin) (b : Bool) : (setLevel s p b).counter = s.counter := rfl
@[simp] theorem setLevel_compare (p : Pin) (b : Bool) : (setLevel s p b).compare = s.compare := rfl
@[simp] theorem setLevel_cmpArmed (p : Pin) (b : Bool) : (setLevel s p b).cmpArmed = s.cmpArmed := rfl
@[simp] theorem setLevel_tsBase (p : Pin) (b : Bool) : (setLevel s p b).tsBase = s.tsBase := rfl
@[simp] theorem setLevel_wkCb (p : Pin) (b : Bool) : (setLevel s p b).wkCb = s.wkCb := rfl
@[simp] theorem setLevel_timers (p : Pin) (b : Bool) : (setLevel s p b).timers = s.timers := rfl
@[simp] theorem setLevel_pins (p : Pin) (b : Bool) : (setLevel s p b).pins = s.pins := rfl
@[simp] theorem setLevel_handlers (p : Pin) (b : Bool) : (setLevel s p b).handlers = s.handlers := rfl
@[simp] theorem setLevel_hwOk (p : Pin) (b : Bool) : (setLevel s p b).hwOk = s.hwOk := rfl
@[simp] theorem setLevel_pinIn (p : Pin) (b : Bool) : (setLevel s p b).pinIn = s.pinIn.set p.toNat b p.isLt := rfl
@[simp] theorem setLevel_input (p : Pin) (b : Bool) : (setLevel s p b).input = s.input := rfl
@[simp] theorem setLevel_out (p : Pin) (b : Bool) : (setLevel s p b).out = s.out := rfl

@[simp] theorem setSlot_cfg (h : Nat) (t : TimerSlot) : (setSlot s h t).cfg = s.cfg := rfl
@[simp] theorem setSlot_ctrRun (h : Nat) (t : TimerSlot) : (setSlot s h t).ctrRun = s.ctrRun := rfl
@[simp] theorem setSlot_counter (h : Nat) (t : TimerSlot) : (setSlot s h t).counter = s.counter := rfl
@[simp] theorem setSlot_compare (h : Nat) (t : TimerSlot) : (setSlot s h t).compare = s.compare := rfl
@[simp] theorem setSlot_cmpArmed (h : Nat) (t : TimerSlot) : (setSlot s h t).cmpArmed = s.cmpArmed := rfl
@[simp] theorem setSlot_tsBase (h : Nat) (t : TimerSlot) : (setSlot s h t).tsBase = s.tsBase := rfl
@[simp] theorem setSlot_wkCb (h : Nat) (t : TimerSlot) : (setSlot s h t).wkCb = s.wkCb := rfl
@[simp] theorem setSlot_timers (h : Nat) (t : TimerSlot) : (setSlot s h t).timers = s.timers.set h t := rfl
@[simp] theorem setSlot_pins (h : Nat) (t : TimerSlot) : (setSlot s h t).pins = s.pins := rfl
@[simp] theorem setSlot_handlers (h : Nat) (t : TimerSlot) : (setSlot s h t).handlers = s.handlers := rfl
@[simp] theorem setSlot_hwOk (h : Nat) (t : TimerSlot) : (setSlot s h t).hwOk = s.hwOk := rfl
@[simp] theorem setSlot_pinIn (h : Nat) (t : TimerSlot) : (setSlot s h t).pinIn = s.pinIn := rfl
@[simp] theorem setSlot_input (h : Nat) (t : TimerSlot) : (setSlot s h t).input = s.input := rfl
@[simp] theorem setSlot_out (h : Nat) (t : TimerSlot) : (setSlot s h t).out = s.out := rfl

@[simp] theorem presentFirst_cfg (x : Stimulus) : (presentFirst x s).cfg = s.cfg := rfl
@[simp] theorem presentFirst_ctrRun (x : Stimulus) : (presentFirst x s).ctrRun = s.ctrRun := rfl
@[simp] theorem presentFirst_counter (x : Stimulus) : (presentFirst x s).counter = s.counter := rfl
@[simp] theorem presentFirst_compare (x : Stimulus) : (presentFirst x s).compare = s.compare := rfl
@[simp] theorem presentFirst_cmpArmed (x : Stimulus) : (presentFirst x s).cmpArmed = s.cmpArmed := rfl
@[simp] theorem presentFirst_tsBase (x : Stimulus) : (presentFirst x s).tsBase = s.tsBase := rfl
@[simp] theorem presentFirst_wkCb (x : Stimulus) : (presentFirst x s).wkCb = s.wkCb := rfl
@[simp] theorem presentFirst_timers (x : Stimulus) : (presentFirst x s).timers = s.timers := rfl
@[simp] theorem presentFirst_pins (x : Stimulus) : (presentFirst x s).pins = s.pins := rfl
@[simp] theorem presentFirst_handlers (x : Stimulus) : (presentFirst x s).handlers = s.handlers := rfl
@[simp] theorem presentFirst_hwOk (x : Stimulus) : (presentFirst x s).hwOk = s.hwOk := rfl
@[simp] theorem presentFirst_pinIn (x : Stimulus) : (presentFirst x s).pinIn = s.pinIn := rfl
@[simp] theorem presentFirst_input (x : Stimulus) : (presentFirst x s).input = x :: s.input := rfl
@[simp] theorem presentFirst_out (x : Stimulus) : (presentFirst x s).out = s.out := rfl

@[simp] theorem tickTimers_cfg : (tickTimers s).cfg = s.cfg := rfl
@[simp] theorem tickTimers_ctrRun : (tickTimers s).ctrRun = s.ctrRun := rfl
@[simp] theorem tickTimers_counter : (tickTimers s).counter = s.counter := rfl
@[simp] theorem tickTimers_compare : (tickTimers s).compare = s.compare := rfl
@[simp] theorem tickTimers_cmpArmed : (tickTimers s).cmpArmed = s.cmpArmed := rfl
@[simp] theorem tickTimers_tsBase : (tickTimers s).tsBase = s.tsBase := rfl
@[simp] theorem tickTimers_wkCb : (tickTimers s).wkCb = s.wkCb := rfl
@[simp] theorem tickTimers_timers : (tickTimers s).timers = (tickSlots 0 s.timers).1 := rfl
@[simp] theorem tickTimers_pins : (tickTimers s).pins = s.pins := rfl
@[simp] theorem tickTimers_handlers : (tickTimers s).handlers = s.handlers := rfl
@[simp] theorem tickTimers_hwOk : (tickTimers s).hwOk = s.hwOk := rfl
@[simp] theorem tickTimers_pinIn : (tickTimers s).pinIn = s.pinIn := rfl
@[simp] theorem tickTimers_input : (tickTimers s).input = s.input := rfl
@[simp] theorem tickTimers_out : (tickTimers s).out = s.out ++ (tickSlots 0 s.timers).2 := rfl

@[simp] theorem resetBlock_cfg : (resetBlock s).cfg = s.cfg := rfl
@[simp] theorem resetBlock_ctrRun : (resetBlock s).ctrRun = false := rfl
@[simp] theorem resetBlock_counter : (resetBlock s).counter = 0 := rfl
@[simp] theorem resetBlock_compare : (resetBlock s).compare = 0 := rfl
@[simp] theorem resetBlock_cmpArmed : (resetBlock s).cmpArmed = false := rfl
@[simp] theorem resetBlock_tsBase : (resetBlock s).tsBase = 0 := rfl
@[simp] theorem resetBlock_wkCb : (resetBlock s).wkCb = 0 := rfl
@[simp] theorem resetBlock_timers : (resetBlock s).timers = List.replicate s.cfg.nTimers TimerSlot.free := rfl
@[simp] theorem resetBlock_pins : (resetBlock s).pins = Vector.replicate 32 PinRecord.unconfigured := rfl
@[simp] theorem resetBlock_handlers : (resetBlock s).handlers = Vector.replicate 32 0 := rfl
@[simp] theorem resetBlock_hwOk : (resetBlock s).hwOk = s.hwOk := rfl
@[simp] theorem resetBlock_pinIn : (resetBlock s).pinIn = s.pinIn := rfl
@[simp] theorem resetBlock_input : (resetBlock s).input = s.input := rfl
@[simp] theorem resetBlock_out : (resetBlock s).out = s.out := rfl

/-- Reset and power-up leave the same values; power-up also draws the inputs (R180). -/
theorem resetBlock_eq_powerUp :
    resetBlock s = { State.powerUp s.cfg s.hwOk s.pinIn with input := s.input, out := s.out } := rfl

variable (c : Config) (b : Bool) (l : Vector Bool 32)

@[simp] theorem powerUp_cfg : (State.powerUp c b l).cfg = c := rfl
@[simp] theorem powerUp_ctrRun : (State.powerUp c b l).ctrRun = false := rfl
@[simp] theorem powerUp_counter : (State.powerUp c b l).counter = 0 := rfl
@[simp] theorem powerUp_compare : (State.powerUp c b l).compare = 0 := rfl
@[simp] theorem powerUp_cmpArmed : (State.powerUp c b l).cmpArmed = false := rfl
@[simp] theorem powerUp_tsBase : (State.powerUp c b l).tsBase = 0 := rfl
@[simp] theorem powerUp_wkCb : (State.powerUp c b l).wkCb = 0 := rfl
@[simp] theorem powerUp_timers : (State.powerUp c b l).timers = List.replicate c.nTimers TimerSlot.free := rfl
@[simp] theorem powerUp_pins : (State.powerUp c b l).pins = Vector.replicate 32 PinRecord.unconfigured := rfl
@[simp] theorem powerUp_handlers : (State.powerUp c b l).handlers = Vector.replicate 32 0 := rfl
@[simp] theorem powerUp_hwOk : (State.powerUp c b l).hwOk = b := rfl
@[simp] theorem powerUp_pinIn : (State.powerUp c b l).pinIn = l := rfl
@[simp] theorem powerUp_input : (State.powerUp c b l).input = [] := rfl
@[simp] theorem powerUp_out : (State.powerUp c b l).out = [] := rfl

end Sys2Proof.Machine
end

