-- ==== Sys2Proof/Laws/Ops.lean ====
section
/-! SUPPORT. One specification per shared operation: what it answers or leaves, said once (R60 to R64, R110, R116, R156 to R158). -/

namespace Sys2Proof.Machine

/-! ## Response and NOTIFY words -/

/-- Status in bits 39:32, data in bits 31:0 (R63). -/
theorem responseWord_eq_or (st : Status) (d : BitVec 32) :
    responseWord st d = BitVec.setWidth 64 st.code <<< 32 ||| BitVec.setWidth 64 d := by
  apply BitVec.eq_of_getLsbD_eq
  intro i hi
  simp only [responseWord, BitVec.getLsbD_append, BitVec.getLsbD_or, BitVec.getLsbD_shiftLeft, BitVec.getLsbD_setWidth]
  interval_cases i <;> simp

theorem responseWord_ok (d : BitVec 32) : responseWord .ok d = BitVec.setWidth 64 d := by
  simp [responseWord_eq_or, Status.code]

theorem responseWord_eState : responseWord .eState 0#32 = 0x0000000100000000#64 := by decide

theorem responseWord_eNores : responseWord .eNores 0#32 = 0x0000000200000000#64 := by decide

theorem responseWord_eParam : responseWord .eParam 0#32 = 0x0000000300000000#64 := by decide

theorem responseWord_eIllegal : responseWord .eIllegal 0#32 = 0x0000000400000000#64 := by decide

/-- 0xF0 in bits 63:56, kind in bits 41:40, index in bits 39:32, token in bits 31:0 (R64). -/
theorem notifyWord_eq_or (kind : NotifyKind) (index : BitVec 8) (token : Token) :
    notifyWord kind index token =
      0xF000000000000000 ||| BitVec.setWidth 64 kind.code <<< 40 ||| BitVec.setWidth 64 index <<< 32 |||
        BitVec.setWidth 64 token := by
  apply BitVec.eq_of_getLsbD_eq
  intro i hi
  simp only [notifyWord, BitVec.getLsbD_append, BitVec.getLsbD_or, BitVec.getLsbD_shiftLeft, BitVec.getLsbD_setWidth]
  interval_cases i <;> simp

theorem notices_null (kind : NotifyKind) (index : BitVec 8) : notices kind index 0 = [] := rfl

theorem notices_of_ne {token : Token} (kind : NotifyKind) (index : BitVec 8) (h : token ≠ 0) :
    notices kind index token = [.notification (notifyWord kind index token)] := if_neg h

/-! ## The indexed files -/

theorem pin_setPin (s : State) (p q : Pin) (r : PinRecord) :
    pin (setPin s p r) q = if q = p then r else pin s q := by
  simp only [pin, setPin, Vector.get_eq_getElem, BitVec.val_toFin]
  by_cases h : q = p
  · subst h; simp
  · rw [if_neg h]
    exact Vector.getElem_set_ne _ _ fun e => h (BitVec.eq_of_toNat_eq e.symm)

theorem handler_setHandler (s : State) (p q : Pin) (c : Token) :
    handler (setHandler s p c) q = if q = p then c else handler s q := by
  simp only [handler, setHandler, Vector.get_eq_getElem, BitVec.val_toFin]
  by_cases h : q = p
  · subst h; simp
  · rw [if_neg h]
    exact Vector.getElem_set_ne _ _ fun e => h (BitVec.eq_of_toNat_eq e.symm)

theorem level_setLevel (s : State) (p q : Pin) (b : Bool) :
    level (setLevel s p b) q = if q = p then b else level s q := by
  simp only [level, setLevel, Vector.get_eq_getElem, BitVec.val_toFin]
  by_cases h : q = p
  · subst h; simp
  · rw [if_neg h]
    exact Vector.getElem_set_ne _ _ fun e => h (BitVec.eq_of_toNat_eq e.symm)

/-- The accessors see only their own file. -/
theorem pin_congr {s t : State} (h : t.pins = s.pins) (p : Pin) : pin t p = pin s p := by simp [pin, h]

theorem handler_congr {s t : State} (h : t.handlers = s.handlers) (p : Pin) : handler t p = handler s p := by
  simp [handler, h]

theorem level_congr {s t : State} (h : t.pinIn = s.pinIn) (p : Pin) : level t p = level s p := by simp [level, h]

theorem slot_congr {s t : State} (h : t.timers = s.timers) (k : Handle) : slot t k = slot s k := by simp [slot, h]

theorem slot_of_getElem? {s : State} {h : Handle} {t : TimerSlot} (e : s.timers[h.toNat]? = some t) : slot s h = t := by
  simp [slot, e]

theorem slot_setSlot {s : State} {h : Handle} (hh : h.toNat < s.timers.length) (k : Handle) (t : TimerSlot) :
    slot (setSlot s h.toNat t) k = if k = h then t else slot s k := by
  simp only [slot, setSlot, List.getD_eq_getElem?_getD, List.getElem?_set]
  by_cases e : k = h
  · subst e; simp [hh]
  · have : h.toNat ≠ k.toNat := fun c => e (BitVec.eq_of_toNat_eq c.symm)
    simp [e, this]

/-- A handle is valid iff it is below `N_TIMERS` and its slot is created (R116). -/
theorem validHandle_iff (s : State) (h : Handle) :
    validHandle s h = true ↔ h.toNat < s.cfg.nTimers ∧ (slot s h).created = true := by
  simp [validHandle]

/-- `freeSlot` answers the least free index of the pool (R110). -/
theorem freeSlot_eq_some_iff (s : State) (h : Nat) :
    freeSlot s = some h ↔
      h < s.cfg.nTimers ∧ (∃ t, s.timers[h]? = some t ∧ t.created = false) ∧
      ∀ k < h, ∃ t, s.timers[k]? = some t ∧ t.created = true := by
  unfold freeSlot
  rw [List.findIdx?_eq_some_iff_getElem]
  constructor
  · rintro ⟨hl, hf, hk⟩
    simp only [List.length_take, lt_min_iff] at hl
    refine ⟨hl.1, ⟨s.timers[h], by simp [hl.2], by simpa using hf⟩, fun k hkh => ?_⟩
    exact ⟨s.timers[k], by simp, by simpa using hk k hkh⟩
  · rintro ⟨hn, ⟨t, ht, hc⟩, hk⟩
    obtain ⟨hl, rfl⟩ := List.getElem?_eq_some_iff.1 ht
    refine ⟨by simp [hn, hl], by simpa using hc, fun k hkh => ?_⟩
    obtain ⟨u, hu, huc⟩ := hk k hkh
    obtain ⟨_, rfl⟩ := List.getElem?_eq_some_iff.1 hu
    simpa using huc

theorem freeSlot_eq_none_of_all {s : State} (h : ∀ k < s.cfg.nTimers, ∃ t, s.timers[k]? = some t ∧ t.created = true) :
    freeSlot s = none := by
  cases e : freeSlot s with
  | none => rfl
  | some k =>
    obtain ⟨hk, ⟨t, ht, hf⟩, -⟩ := (freeSlot_eq_some_iff s k).1 e
    obtain ⟨u, hu, hc⟩ := h k hk
    simp_all

/-! ## Ticks -/

/-- `advanceCounter`: the overflow, or one more tick (R156). -/
theorem advanceCounter_cases (s : State) :
    (s.counter.toNat = maxTicks s.cfg ∧
      advanceCounter s = { s with counter := 0, tsBase := accumulate s.cfg s.tsBase }) ∨
    (s.counter.toNat ≠ maxTicks s.cfg ∧ advanceCounter s = { s with counter := s.counter + 1 }) := by
  unfold advanceCounter
  split
  · exact .inl ⟨‹_›, rfl⟩
  · exact .inr ⟨‹_›, rfl⟩

/-- `compareMatch`: the match, which disarms and notifies, or nothing (R156). -/
theorem compareMatch_cases (s : State) :
    (s.cmpArmed = true ∧ s.counter = s.compare ∧
      compareMatch s = { s with cmpArmed := false, out := s.out ++ notices .wakeup 0 s.wkCb }) ∨
    ((s.cmpArmed = false ∨ s.counter ≠ s.compare) ∧ compareMatch s = s) := by
  unfold compareMatch
  split
  · rename_i h; exact .inl ⟨h.1, h.2, rfl⟩
  · rename_i h
    refine .inr ⟨?_, rfl⟩
    cases e : s.cmpArmed
    · exact .inl rfl
    · exact .inr fun c => h ⟨e, c⟩

/-- The slots after a timer tick are the slots, each ticked (R157). -/
theorem tickSlots_fst (h : Nat) (ts : List TimerSlot) : (tickSlots h ts).1 = ts.map tickSlot := by
  induction ts generalizing h with
  | nil => rfl
  | cons t rest ih => simp [tickSlots, ih]

/-- The words of a timer tick are those of each slot, in ascending handle order (R157, R163 (b)). -/
theorem tickSlots_snd (h : Nat) (ts : List TimerSlot) :
    (tickSlots h ts).2 = (ts.zipIdx h).flatMap fun x => slotNotices x.2 x.1 := by
  induction ts generalizing h with
  | nil => rfl
  | cons t rest ih => simp [tickSlots, ih, List.zipIdx_cons]

/-- A tick touches neither `created`, nor `cb`, nor `timeout_ms` of a slot (R154, R157). -/
@[simp] theorem tickSlot_created (t : TimerSlot) : (tickSlot t).created = t.created := by
  unfold tickSlot; split <;> try split
  all_goals rfl

@[simp] theorem tickSlot_cb (t : TimerSlot) : (tickSlot t).cb = t.cb := by
  unfold tickSlot; split <;> try split
  all_goals rfl

@[simp] theorem tickSlot_timeoutMs (t : TimerSlot) : (tickSlot t).timeoutMs = t.timeoutMs := by
  unfold tickSlot; split <;> try split
  all_goals rfl

/-! ## Parameters -/

theorem maxTicks_lt (c : Config) : maxTicks c < 2 ^ 32 := by
  have h : 2 ^ c.w ≤ 2 ^ 32 := Nat.pow_le_pow_right (by decide) c.w_le
  have : 0 < 2 ^ c.w := Nat.two_pow_pos c.w
  unfold maxTicks
  omega

theorem truncW_toNat (c : Config) (v : Nat) : (truncW c v).toNat = v % 2 ^ c.w := by
  have h : 2 ^ c.w ≤ 2 ^ 32 := Nat.pow_le_pow_right (by decide) c.w_le
  have : v % 2 ^ c.w < 2 ^ c.w := Nat.mod_lt _ (Nat.two_pow_pos _)
  simp only [truncW, BitVec.toNat_ofNat]
  exact Nat.mod_eq_of_lt (by omega)

/-- A truncated value is in the range of a W-bit register (R15). -/
theorem truncW_le (c : Config) (v : Nat) : (truncW c v).toNat ≤ maxTicks c := by
  rw [truncW_toNat]
  have : v % 2 ^ c.w < 2 ^ c.w := Nat.mod_lt _ (Nat.two_pow_pos _)
  unfold maxTicks
  omega

/-- The countdown `TMR_START` loads fits `remaining` and is at least 1 (R95 (h), R112). -/
theorem startTicks_bounds (c : Config) (ms : BitVec 32) : 1 ≤ startTicks c ms ∧ startTicks c ms < 2 ^ 48 := by
  have hm : msToTicks c ms < 2 ^ 48 := by
    unfold msToTicks
    split
    · have h1 : ms.toNat ≤ 2 ^ 32 - 1 := by omega
      have h2 : c.fTmr ≤ 2 ^ 16 - 1 := by have := c.fTmr_lt; omega
      have := Nat.mul_le_mul h1 h2
      omega
    · exact BitVec.isLt _
  have := c.minTicks_pos
  have := c.minTicks_lt
  unfold startTicks
  split <;> omega

end Sys2Proof.Machine
end

