-- ==== Sys2Proof/Laws/PerInstr.lean ====
section
/-! SUPPORT. Facts of every instruction as syntax, one lemma per constructor: the opcode of its word (R55, R58) and the reserved
bits of its word (R57). -/

namespace Sys2Proof.Laws.OpcodeField

/-- Bits 63:56 of an instruction's word are its opcode (R55, R58). -/
def Statement (i : Instr) : Prop := fieldOp (encode i) = i.op.code

theorem ctrInit : Statement .ctrInit := fieldOp_layout ..
theorem ctrRead : Statement .ctrRead := fieldOp_layout ..
theorem ctrMax : Statement .ctrMax := fieldOp_layout ..
theorem ctrSetcmp (d : BitVec 32) (e : Bool) : Statement (.ctrSetcmp d e) := fieldOp_layout ..
theorem ctrTestovf : Statement .ctrTestovf := fieldOp_layout ..
theorem clkGet : Statement .clkGet := fieldOp_layout ..
theorem clkUpdate (d : BitVec 32) : Statement (.clkUpdate d) := fieldOp_layout ..
theorem wkSched (d : BitVec 32) : Statement (.wkSched d) := fieldOp_layout ..
theorem wkSetcb (d : Token) : Statement (.wkSetcb d) := fieldOp_layout ..
theorem tmrCreate (d : Token) : Statement (.tmrCreate d) := fieldOp_layout ..
theorem tmrSetto (h : Handle) (d : BitVec 32) : Statement (.tmrSetto h d) := fieldOp_layout ..
theorem tmrStart (h : Handle) : Statement (.tmrStart h) := fieldOp_layout ..
theorem tmrStop (h : Handle) : Statement (.tmrStop h) := fieldOp_layout ..
theorem tmrNow : Statement .tmrNow := fieldOp_layout ..
theorem tmrElapsed (d : BitVec 32) : Statement (.tmrElapsed d) := fieldOp_layout ..
theorem gpCfg (p : Pin) (m : PinMode) (u : Pull) (v : Bool) : Statement (.gpCfg p m u v) := fieldOp_layout ..
theorem gpArm (p : Pin) (e : Edge) (r : BitVec 3) (d : Token) : Statement (.gpArm p e r d) := fieldOp_layout ..
theorem gpDisarm (p : Pin) : Statement (.gpDisarm p) := fieldOp_layout ..
theorem gpWrite (p : Pin) (v : Bool) : Statement (.gpWrite p v) := fieldOp_layout ..
theorem gpToggle (p : Pin) : Statement (.gpToggle p) := fieldOp_layout ..
theorem gpRead (p : Pin) : Statement (.gpRead p) := fieldOp_layout ..
theorem gpDeinit (p : Pin) : Statement (.gpDeinit p) := fieldOp_layout ..
theorem evTick : Statement .evTick := fieldOp_layout ..
theorem evTmrtick : Statement .evTmrtick := fieldOp_layout ..
theorem evPinirq (p : Pin) (e : Edge) : Statement (.evPinirq p e) := fieldOp_layout ..
theorem evPinlvl (p : Pin) (b : Bool) : Statement (.evPinlvl p b) := fieldOp_layout ..
theorem evHwok (b : Bool) : Statement (.evHwok b) := fieldOp_layout ..
theorem evReset : Statement .evReset := fieldOp_layout ..

end Sys2Proof.Laws.OpcodeField

namespace Sys2Proof.Laws.ReservedBits

/-- Every bit outside the fields of its format is 0 in an instruction's word, and the opcode bits match (R57). -/
def Statement (i : Instr) : Prop := encode i &&& i.op.format.mask = i.op.matchWord

theorem ctrInit : Statement .ctrInit := by
  simp only [Statement, matchWord_eq, encode, Instr.op, Op.format, Op.code]
  exact maskZ_layout ..
theorem ctrRead : Statement .ctrRead := by
  simp only [Statement, matchWord_eq, encode, Instr.op, Op.format, Op.code]
  exact maskZ_layout ..
theorem ctrMax : Statement .ctrMax := by
  simp only [Statement, matchWord_eq, encode, Instr.op, Op.format, Op.code]
  exact maskZ_layout ..
theorem ctrSetcmp (d : BitVec 32) (e : Bool) : Statement (.ctrSetcmp d e) := by
  simp only [Statement, matchWord_eq, encode, Instr.op, Op.format, Op.code]
  exact maskC_layout ..
theorem ctrTestovf : Statement .ctrTestovf := by
  simp only [Statement, matchWord_eq, encode, Instr.op, Op.format, Op.code]
  exact maskZ_layout ..
theorem clkGet : Statement .clkGet := by
  simp only [Statement, matchWord_eq, encode, Instr.op, Op.format, Op.code]
  exact maskZ_layout ..
theorem clkUpdate (d : BitVec 32) : Statement (.clkUpdate d) := by
  simp only [Statement, matchWord_eq, encode, Instr.op, Op.format, Op.code]
  exact maskD_layout ..
theorem wkSched (d : BitVec 32) : Statement (.wkSched d) := by
  simp only [Statement, matchWord_eq, encode, Instr.op, Op.format, Op.code]
  exact maskD_layout ..
theorem wkSetcb (d : Token) : Statement (.wkSetcb d) := by
  simp only [Statement, matchWord_eq, encode, Instr.op, Op.format, Op.code]
  exact maskD_layout ..
theorem tmrCreate (d : Token) : Statement (.tmrCreate d) := by
  simp only [Statement, matchWord_eq, encode, Instr.op, Op.format, Op.code]
  exact maskD_layout ..
theorem tmrSetto (h : Handle) (d : BitVec 32) : Statement (.tmrSetto h d) := by
  simp only [Statement, matchWord_eq, encode, Instr.op, Op.format, Op.code]
  exact maskHD_layout ..
theorem tmrStart (h : Handle) : Statement (.tmrStart h) := by
  simp only [Statement, matchWord_eq, encode, Instr.op, Op.format, Op.code]
  exact maskH_layout ..
theorem tmrStop (h : Handle) : Statement (.tmrStop h) := by
  simp only [Statement, matchWord_eq, encode, Instr.op, Op.format, Op.code]
  exact maskH_layout ..
theorem tmrNow : Statement .tmrNow := by
  simp only [Statement, matchWord_eq, encode, Instr.op, Op.format, Op.code]
  exact maskZ_layout ..
theorem tmrElapsed (d : BitVec 32) : Statement (.tmrElapsed d) := by
  simp only [Statement, matchWord_eq, encode, Instr.op, Op.format, Op.code]
  exact maskD_layout ..
theorem gpCfg (p : Pin) (m : PinMode) (u : Pull) (v : Bool) : Statement (.gpCfg p m u v) := by
  simp only [Statement, matchWord_eq, encode, Instr.op, Op.format, Op.code]
  exact maskPC_layout ..
theorem gpArm (p : Pin) (e : Edge) (r : BitVec 3) (d : Token) : Statement (.gpArm p e r d) := by
  simp only [Statement, matchWord_eq, encode, Instr.op, Op.format, Op.code]
  exact maskPA_layout ..
theorem gpDisarm (p : Pin) : Statement (.gpDisarm p) := by
  simp only [Statement, matchWord_eq, encode, Instr.op, Op.format, Op.code]
  exact maskP_layout ..
theorem gpWrite (p : Pin) (v : Bool) : Statement (.gpWrite p v) := by
  simp only [Statement, matchWord_eq, encode, Instr.op, Op.format, Op.code]
  exact maskPW_layout ..
theorem gpToggle (p : Pin) : Statement (.gpToggle p) := by
  simp only [Statement, matchWord_eq, encode, Instr.op, Op.format, Op.code]
  exact maskP_layout ..
theorem gpRead (p : Pin) : Statement (.gpRead p) := by
  simp only [Statement, matchWord_eq, encode, Instr.op, Op.format, Op.code]
  exact maskP_layout ..
theorem gpDeinit (p : Pin) : Statement (.gpDeinit p) := by
  simp only [Statement, matchWord_eq, encode, Instr.op, Op.format, Op.code]
  exact maskP_layout ..
theorem evTick : Statement .evTick := by
  simp only [Statement, matchWord_eq, encode, Instr.op, Op.format, Op.code]
  exact maskZ_layout ..
theorem evTmrtick : Statement .evTmrtick := by
  simp only [Statement, matchWord_eq, encode, Instr.op, Op.format, Op.code]
  exact maskZ_layout ..
theorem evPinirq (p : Pin) (e : Edge) : Statement (.evPinirq p e) := by
  simp only [Statement, matchWord_eq, encode, Instr.op, Op.format, Op.code]
  exact maskEP_layout ..
theorem evPinlvl (p : Pin) (b : Bool) : Statement (.evPinlvl p b) := by
  simp only [Statement, matchWord_eq, encode, Instr.op, Op.format, Op.code]
  exact maskPW_layout ..
theorem evHwok (b : Bool) : Statement (.evHwok b) := by
  simp only [Statement, matchWord_eq, encode, Instr.op, Op.format, Op.code]
  exact maskF_layout ..
theorem evReset : Statement .evReset := by
  simp only [Statement, matchWord_eq, encode, Instr.op, Op.format, Op.code]
  exact maskZ_layout ..

end Sys2Proof.Laws.ReservedBits
end

