-- ==== Sys2Proof/Laws/Step.lean ====
section
/-! SUPPORT. What a step can do (R45, R61, R62, R69), and runs one step at a time. -/

namespace Sys2Proof.Machine

/-- If a step answers a next state, a stimulus was consumed, and it was executed or it was an illegal command. -/
theorem step_cases {s t : State} (h : step s = .next t) :
    ∃ x rest, s.input = x :: rest ∧
      ((∃ i, decode x.port x.word = .stimulus i ∧ exec i { s with input := rest } = .next t) ∨
       (∃ why, decode x.port x.word = .illegal why ∧ t = answerIllegal { s with input := rest })) := by
  unfold step nextStimulus at h
  cases hi : s.input with
  | nil => simp [hi] at h
  | cons x rest =>
    refine ⟨x, rest, rfl, ?_⟩
    simp only [hi] at h
    cases hd : decode x.port x.word with
    | stimulus i => exact .inl ⟨i, rfl, by simpa [hd] using h⟩
    | illegal why => exact .inr ⟨why, rfl, by simpa [hd, eq_comm] using h⟩
    | refused why => simp [hd] at h

theorem run_zero (s : State) : Host.Core.run Sys2Proof.core 0 s = .next s := rfl

/-- On any machine, a run of `n + 1` steps that ends in a next state is one step and a run of `n`. -/
theorem coreRun_succ (M : Host.Core) (n : Nat) (s t : M.State) :
    M.run (n + 1) s = .next t ↔ ∃ u, M.step s = .next u ∧ M.run n u = .next t := by
  rw [Host.Core.run]
  cases M.step s <;> simp

theorem run_succ {n : Nat} {s t : State} :
    Host.Core.run Sys2Proof.core (n + 1) s = .next t ↔
      ∃ u, step s = .next u ∧ Host.Core.run Sys2Proof.core n u = .next t :=
  coreRun_succ Sys2Proof.core n s t

end Sys2Proof.Machine
end

