-- ==== Sys2Proof/Laws/Run.lean ====
section
/-! SUPPORT. What presenting one stimulus does, and observations one step at a time (R45, R195). -/

namespace Sys2Proof.Machine

/-- A presented stimulus is executed if it is legal, answered if it is an illegal command, and has no step if it is no event
(R61, R62, R69). -/
theorem stimulate_eq (x : Stimulus) (s : State) :
    stimulate x s =
      match decode x.port x.word with
      | .stimulus i => exec i s
      | .illegal _ => .next (answerIllegal s)
      | .refused why => .refused (.malformedEvent why) := rfl

/-- The exported configuration is observed in one more state at each step. -/
theorem observe_exported_succ (states : Nat → State) (n : Nat) :
    (observe states (n + 1)).exported = (observe states n).exported ++ [(states (n + 1)).exports] := by
  simp [observe, List.range_succ]

/-- A run is a run for as long as any shorter extent says. -/
theorem IsRunFrom.shorten {s : State} {xs : Nat → Stimulus} {states : Nat → State} {extent extent' : Extent}
    (h : IsRunFrom s xs states extent) (le : ∀ n, extent'.hasStep n → extent.hasStep n) : IsRunFrom s xs states extent' :=
  ⟨h.start, fun n hn => h.next n (le n hn)⟩

end Sys2Proof.Machine
end

