-- ==== Sys2Proof/Tests/Slice0.lean ====
section
/-! SUPPORT. Tests: words written out from the spec's encoding, ill-formed terms refused, single steps from
spec/95_test_vectors.md, and for every statement with hypotheses a concrete case that meets them. Expected values are the spec's
own vectors or follow from a rule by hand; the V- and L- names are those of spec/95_test_vectors.md. -/

namespace Sys2Proof.Tests

open Sys2Proof.Machine Sys2Proof.Safety

/-! ## Helpers -/

/-- The reset state of the vectors: `HW_OK = 1`, `PIN_IN = 0`. -/
def block : State := { State.reset with hwOk := true, pinIn := Vector.replicate 32 false }

/-- "running" of the vectors, at a given count. -/
def running (counter : BitVec 32) : State := { block with ctrRun := true, counter := counter }

/-- Parameters with a short period: `MAX_TICKS = 15`, a pool of 2 timers, 1 ms a timer tick. -/
def shortConfig (f : Nat) (h : 1 ≤ f) (filtered : Bool) : Config where
  w := 4
  f := f
  nTimers := 2
  fTmr := 1000
  minTicks := 5
  conversion := .rounded
  testOvfPreload := 0
  gpioEnvFiltered := filtered
  w_ge := by decide
  w_le := by decide
  f_pos := h
  nTimers_pos := by decide
  nTimers_le := by decide
  fTmr_pos := by decide
  fTmr_lt := by decide
  minTicks_pos := by decide
  minTicks_lt := by decide
  testOvfPreload_le := by decide

/-- `W = 4`, `F = 2`. -/
def short : Config := shortConfig 2 (by decide) false

/-- `W = 4`, `F = 1`: a delay of one period is exactly `MAX_TICKS`. -/
def unit : Config := shortConfig 1 (by decide) false

/-- A short block with these timers. -/
def pool (timers : List TimerSlot) : State := { block with cfg := short, timers := timers }

def createdSlot (cb : Token) (ms : BitVec 32) : TimerSlot := ⟨true, cb, ms, .idle, 0⟩

def armedSlot (cb : Token) (ms : BitVec 32) (remaining : BitVec 48) : TimerSlot := ⟨true, cb, ms, .armed, remaining⟩

/-- A block with pin 5 as given. -/
def pin5 (r : PinRecord) : State := setPin block 5 r

def inputPin : PinRecord := ⟨true, .input, .pullUp, true, .none, false, 0, false⟩

def armedPin : PinRecord := ⟨true, .input, .pullUp, true, .rising, true, 2, false⟩

def outputPin : PinRecord := ⟨true, .output, .none, false, .none, false, 0, true⟩

/-- The state after an instruction, where it has one. -/
def after (i : Instr) (s : State) : Option State :=
  match exec i s with
  | .next t => some t
  | .fault _ => none
  | .refused _ => none

/-- The words an instruction produces from a block that has produced none. -/
def words (i : Instr) (s : State) : Option (List Output) := (after i s).map State.out

/-! ## Decoding: one word for every row of R58 -/

theorem test_decode_ctrInit : decode .command 0x1000000000000000 = .stimulus .ctrInit := by decide
theorem test_decode_ctrRead : decode .command 0x1100000000000000 = .stimulus .ctrRead := by decide
theorem test_decode_ctrMax : decode .command 0x1200000000000000 = .stimulus .ctrMax := by decide
theorem test_decode_ctrSetcmp :
    decode .command 0x1300010001000010 = .stimulus (.ctrSetcmp 0x01000010 true) := by decide
theorem test_decode_ctrTestovf : decode .command 0x1400000000000000 = .stimulus .ctrTestovf := by decide
theorem test_decode_clkGet : decode .command 0x2000000000000000 = .stimulus .clkGet := by decide
theorem test_decode_clkUpdate : decode .command 0x21000000000F4240 = .stimulus (.clkUpdate 1000000) := by decide
theorem test_decode_wkSched : decode .command 0x30000000001FFFFF = .stimulus (.wkSched 2097151) := by decide
theorem test_decode_wkSetcb : decode .command 0x310000000000CAFE = .stimulus (.wkSetcb 0xCAFE) := by decide
theorem test_decode_tmrCreate : decode .command 0x4000000000007001 = .stimulus (.tmrCreate 0x7001) := by decide
theorem test_decode_tmrSetto :
    decode .command 0x410000FFFFFFFFFF = .stimulus (.tmrSetto 255 0xFFFFFFFF) := by decide
theorem test_decode_tmrStart : decode .command 0x4200000100000000 = .stimulus (.tmrStart 1) := by decide
theorem test_decode_tmrStop : decode .command 0x430000C800000000 = .stimulus (.tmrStop 200) := by decide
theorem test_decode_tmrNow : decode .command 0x4400000000000000 = .stimulus .tmrNow := by decide
theorem test_decode_tmrElapsed : decode .command 0x45000000002DC6C0 = .stimulus (.tmrElapsed 3000000) := by decide
theorem test_decode_gpCfg :
    decode .command 0x500001BF00000000 = .stimulus (.gpCfg 31 .output .pullDown true) := by decide
theorem test_decode_gpArm :
    decode .command 0x5102020500005005 = .stimulus (.gpArm 5 .rising 2 0x5005) := by decide
theorem test_decode_gpDisarm : decode .command 0x5200000500000000 = .stimulus (.gpDisarm 5) := by decide
theorem test_decode_gpWrite : decode .command 0x5300010500000000 = .stimulus (.gpWrite 5 true) := by decide
theorem test_decode_gpToggle : decode .command 0x5400000700000000 = .stimulus (.gpToggle 7) := by decide
theorem test_decode_gpRead : decode .command 0x5500000700000000 = .stimulus (.gpRead 7) := by decide
theorem test_decode_gpDeinit : decode .command 0x5600000500000000 = .stimulus (.gpDeinit 5) := by decide
theorem test_decode_evTick : decode .event 0xE000000000000000 = .stimulus .evTick := by decide
theorem test_decode_evTmrtick : decode .event 0xE100000000000000 = .stimulus .evTmrtick := by decide
theorem test_decode_evPinirq : decode .event 0xE200041F00000000 = .stimulus (.evPinirq 31 .falling) := by decide
theorem test_decode_evPinlvl : decode .event 0xE300011F00000000 = .stimulus (.evPinlvl 31 true) := by decide
theorem test_decode_evHwok : decode .event 0xE400010000000000 = .stimulus (.evHwok true) := by decide
theorem test_decode_evReset : decode .event 0xEF00000000000000 = .stimulus .evReset := by decide

/-- V-ENC-6 to V-ENC-18: illegal on the command port, for the first reason in the order of R69. -/
theorem test_illegal_commands :
    decode .command 0x0000000000000000 = .illegal .unassignedOpcode ∧
    decode .command 0x1000000000000001 = .illegal .reservedBit ∧
    decode .command 0x1300020000000000 = .illegal .reservedBit ∧
    decode .command 0x2000000100000000 = .illegal .reservedBit ∧
    decode .command 0x4200010000000000 = .illegal .reservedBit ∧
    decode .command 0x5000C00000000000 = .illegal .reservedBit ∧
    decode .command 0x5100000500000000 = .illegal .edgeCode ∧
    decode .command 0x5108020500000000 = .illegal .reservedBit ∧
    decode .command 0x5200002500000000 = .illegal .reservedBit ∧
    decode .command 0x5700000000000000 = .illegal .unassignedOpcode ∧
    decode .command 0x9900000000000000 = .illegal .unassignedOpcode ∧
    decode .command 0xE000000000000000 = .illegal .unassignedOpcode ∧
    decode .command 0xF00001000000CAFE = .illegal .unassignedOpcode := by decide

/-- V-ENC-18 to V-ENC-22: refused on an event port. -/
theorem test_refused_events :
    decode .event 0xF00001000000CAFE = .refused .unassignedOpcode ∧
    decode .event 0xE200000500000000 = .refused .edgeCode ∧
    decode .event 0xE200060500000000 = .refused .edgeCode ∧
    decode .event 0xE000000000000001 = .refused .reservedBit ∧
    decode .event 0x1000000000000000 = .refused .unassignedOpcode := by decide

/-! ## Well-formedness: an ill-formed term for each check -/

theorem test_wellFormed_refuses_arm_without_edge : (Instr.gpArm 5 .none 0 0).wellFormed = false := by decide
theorem test_wellFormed_refuses_irq_without_edge : (Instr.evPinirq 5 .none).wellFormed = false := by decide
theorem test_wellFormed_refuses_irq_with_both_edges : (Instr.evPinirq 5 .both).wellFormed = false := by decide
/-- The check `pull ≠ 3` of R61 (c) is the decoder's: no term has a fourth pull setting. -/
theorem test_decode_refuses_pull_3 : decode .command 0x500000C000000000 = .illegal .pullCode := by decide
theorem test_wellFormed_accepts :
    (Instr.gpArm 5 .both 0 0).wellFormed = true ∧ (Instr.evPinirq 5 .rising).wellFormed = true := by decide

/-- An ill-formed arm command is answered like an illegal word; an ill-formed pin event has no step. -/
theorem test_ill_formed_terms :
    words (.gpArm 5 .none 0 0) (pin5 inputPin) = some [.response 0x0000000400000000] ∧
    after (.evPinirq 5 .both) block = none := by decide

/-! ## Words of the opcode table -/

theorem test_table_word_runs_first :
    decodeTableWord 64 0xE400010000000000 = some (.evHwok true) ∧
    step (block.withFetchWord 64 0xE400000000000000) = exec (.evHwok false) block :=
  ⟨by decide, rfl⟩

/-! ## Assembler text (R67) and serialised words (R42) -/

/-- The handler 0x5005 of R67's example is 20485. -/
theorem test_assembly_text :
    assemblyText (.gpArm 5 .rising 2 0x5005) = "GP_ARM pin=5, edge=Rising, prio=2, handler=20485" := by decide

/-- R42: little-endian; the word is V-ENC-1. -/
theorem test_word_bytes : wordBytes 0x1300010001000010 = [0x10, 0x00, 0x00, 0x01, 0x00, 0x01, 0x00, 0x13] := by decide

/-! ## Counter adapter -/

/-- V-CTR-1. -/
theorem test_ctrInit_unhealthy :
    (after .ctrInit { block with hwOk := false }).map (fun t => (t.ctrRun, t.out)) =
      some (false, [.response 0x0000000200000000]) := by decide
/-- V-CTR-3. -/
theorem test_ctrInit_twice :
    (after .ctrInit (running 5)).map (fun t => (t.counter, t.out)) = some (5, [.response 0x0000000100000000]) := by decide
/-- V-CTR-6. -/
theorem test_ctrRead : words .ctrRead (running 5) = some [.response 5] := by decide
/-- V-CTR-7, V-CTR-8. -/
theorem test_ctrMax :
    words .ctrMax block = some [.response 0x0000000000FFFFFF] ∧
    words .ctrMax (pool []) = some [.response 15] := by decide
/-- V-CTR-10. -/
theorem test_ctrSetcmp_stopped :
    (after (.ctrSetcmp 16 true) block).map (fun t => (t.compare, t.cmpArmed, t.out)) =
      some (0, false, [.response 0x0000000100000000]) := by decide
/-- V-CTR-11. -/
theorem test_ctrSetcmp_truncates :
    (after (.ctrSetcmp 0x01000010 true) (running 0)).map (fun t => (t.compare, t.cmpArmed, t.out)) =
      some (0x10, true, [.response 0]) := by decide
/-- V-CTR-14. -/
theorem test_ctrTestovf_stopped :
    (after .ctrTestovf block).map (fun t => (t.counter, t.out)) = some (0, [.response 0]) := by decide
/-- V-CTR-15. -/
theorem test_ctrTestovf_running :
    (after .ctrTestovf (running 9)).map (fun t => (t.counter, t.out)) = some (0xFFFFF0, [.response 0]) := by decide

/-! ## Monotonic clock -/

/-- V-CLK-4. -/
theorem test_clkGet_divides : words .clkGet (running 0xFFFFFF) = some [.response 0x1FFFFF] := by decide
/-- V-CLK-10. -/
theorem test_clkGet_wraps : words .clkGet { running 8 with tsBase := 0xFFFFFFFF } = some [.response 0] := by decide
/-- V-CLK-8. -/
theorem test_clkUpdate_goes_back :
    (after (.clkUpdate 5) { running 20 with tsBase := 1000000 }).map (fun t => (t.tsBase, t.counter, t.out)) =
      some (5, 20, [.response 0]) := by decide

/-! ## Wakeup scheduler -/

/-- V-WK-4, the document's own example (L1-3). -/
theorem test_wkSched_wraps :
    (after (.wkSched 4) (running 0xFFFFF0)).map (fun t => (t.compare, t.cmpArmed, t.out)) =
      some (0x2F, true, [.response 0]) := by decide
/-- V-WK-11. -/
theorem test_wkSched_truncates :
    (after (.wkSched 2097151) (running 0x2F)).map (fun t => (t.compare, t.cmpArmed)) = some (0xFFFFC8, true) := by decide
/-- V-WK-14. -/
theorem test_wkSetcb_removes :
    (after (.wkSetcb 0) { block with wkCb := 0xCAFE }).map (fun t => (t.wkCb, t.out)) = some (0, [.response 0]) := by decide

/-! ## Software timers -/

/-- V-TMR-2. -/
theorem test_tmrCreate_second :
    (after (.tmrCreate 0) (pool [createdSlot 0x7001 0, TimerSlot.free])).map (fun t => (t.timers, t.out)) =
      some ([createdSlot 0x7001 0, createdSlot 0 0], [.response 1]) := by decide
/-- V-TMR-3. -/
theorem test_tmrCreate_exhausted :
    words (.tmrCreate 0x7003) (pool [createdSlot 0x7001 0, createdSlot 0 0]) =
      some [.response 0x0000000200000000] := by decide
/-- V-TMR-6, V-TMR-7. -/
theorem test_tmrSetto_clamps :
    (after (.tmrSetto 0 9) (pool [createdSlot 1 0, TimerSlot.free])).map State.timers =
      some [createdSlot 1 10, TimerSlot.free] ∧
    (after (.tmrSetto 0 11) (pool [createdSlot 1 0, TimerSlot.free])).map State.timers =
      some [createdSlot 1 11, TimerSlot.free] := by decide
/-- V-TMR-10. -/
theorem test_tmrSetto_armed :
    (after (.tmrSetto 0 100) (pool [armedSlot 1 12 5, TimerSlot.free])).map State.timers =
      some [armedSlot 1 100 5, TimerSlot.free] := by decide
/-- V-TMR-8. -/
theorem test_tmrStart_without_timeout :
    words (.tmrStart 0) (pool [createdSlot 1 0, TimerSlot.free]) = some [.response 0x0000000300000000] := by decide
/-- V-TMR-9, and V-TMR-14 with its parameter: 10 ms at 32768 Hz are 328 ticks. -/
theorem test_tmrStart_arms :
    (after (.tmrStart 0) (pool [armedSlot 1 12 5, TimerSlot.free])).map State.timers =
      some [armedSlot 1 12 12, TimerSlot.free] ∧
    (after (.tmrStart 0) { block with timers := [createdSlot 1 10] }).map State.timers =
      some [armedSlot 1 10 328] := by decide
/-- V-TMR-12. -/
theorem test_tmrStop_armed :
    (after (.tmrStop 0) (pool [armedSlot 1 12 1, TimerSlot.free])).map (fun t => (t.timers, t.out)) =
      some ([createdSlot 1 12, TimerSlot.free], [.response 0]) := by decide
/-- V-TMR-17, V-TMR-18. -/
theorem test_tmrStop_invalid :
    words (.tmrStop 1) (pool [createdSlot 1 12, TimerSlot.free]) = some [.response 0x0000000100000000] ∧
    words (.tmrStop 200) (pool [createdSlot 1 12, TimerSlot.free]) = some [.response 0x0000000100000000] := by decide
/-- V-TMR-19. -/
theorem test_tmrNow : words .tmrNow { running 80 with tsBase := 100 } = some [.response 110] := by decide
/-- V-TMR-20, V-TMR-22. -/
theorem test_tmrElapsed_saturates :
    words (.tmrElapsed 110) { running 80 with tsBase := 100 } = some [.response 0] ∧
    words (.tmrElapsed 0x80000000) { running 80 with tsBase := 100 } = some [.response 0] := by decide
/-- V-TMR-23. -/
theorem test_tmrElapsed_unsigned :
    words (.tmrElapsed 16) { block with tsBase := 0xFFFFFFF0 } = some [.response 0xFFFFFFE0] := by decide

/-! ## GPIO -/

/-- V-GP-2. -/
theorem test_gpCfg_input_ignores_value :
    (after (.gpCfg 5 .input .none true) block).map (fun t => (pin t 5, t.out)) =
      some (⟨true, .input, .none, true, .none, false, 0, false⟩, [.response 0]) := by decide
/-- V-GP-4. -/
theorem test_gpCfg_output :
    (after (.gpCfg 31 .output .pullDown false) block).map (fun t => (pin t 31, t.out)) =
      some (⟨true, .output, .pullDown, false, .none, false, 0, false⟩, [.response 0]) := by decide
/-- V-GP-7. -/
theorem test_gpArm_input :
    (after (.gpArm 5 .rising 2 0x5005) (pin5 inputPin)).map (fun t => (pin t 5, handler t 5, t.out)) =
      some (armedPin, 0x5005, [.response 0]) := by decide
/-- V-GP-9 on pin 5: an output cannot be armed. -/
theorem test_gpArm_output :
    (after (.gpArm 5 .both 0 0x7007) (pin5 outputPin)).map (fun t => (pin t 5, handler t 5, t.out)) =
      some (outputPin, 0, [.response 0x0000000100000000]) := by decide
/-- P3 step 10: only `evt_en` changes. -/
theorem test_gpDisarm :
    (after (.gpDisarm 5) (setHandler (pin5 armedPin) 5 0x5005)).map (fun t => (pin t 5, handler t 5, t.out)) =
      some (⟨true, .input, .pullUp, true, .rising, false, 2, false⟩, 0x5005, [.response 0]) := by decide
/-- P3 step 9: an input is not written. -/
theorem test_gpWrite_input :
    words (.gpWrite 5 true) (pin5 inputPin) = some [.response 0x0000000100000000] := by decide
/-- R129 on an output that is high. -/
theorem test_gpWrite_output :
    (after (.gpWrite 5 false) (pin5 outputPin)).map (fun t => ((pin t 5).outLevel, t.out)) =
      some (false, [.response 0]) := by decide
/-- P3 step 14. -/
theorem test_gpToggle :
    (after (.gpToggle 5) (pin5 outputPin)).map (fun t => ((pin t 5).outLevel, t.out)) =
      some (false, [.response 0]) := by decide
/-- P3 step 8. -/
theorem test_gpRead_input :
    words (.gpRead 5) (setLevel (pin5 inputPin) 5 true) = some [.response 1] := by decide
/-- L1-8. -/
theorem test_gpRead_output :
    words (.gpRead 5) (pin5 outputPin) = some [.response 0x0000000100000000] := by decide
/-- V-GP-24; the handler survives (V-GP-27). -/
theorem test_gpDeinit :
    (after (.gpDeinit 5) (setHandler (pin5 armedPin) 5 0x5005)).map (fun t => (pin t 5, handler t 5, t.out)) =
      some (PinRecord.unconfigured, 0x5005, [.response 0]) := by decide
/-- V-GP-26. -/
theorem test_gpDeinit_unconfigured :
    words (.gpDeinit 5) block = some [.response 0x0000000100000000] := by decide

/-! ## Events -/

/-- V-WK-18: overflow and match in one step. -/
theorem test_evTick_overflow_and_match :
    (after .evTick { running 0xFFFFFF with wkCb := 0xCAFE, cmpArmed := true }).map
      (fun t => (t.counter, t.cmpArmed, t.tsBase, t.out)) =
      some (0, false, 2097151, [.notification 0xF00001000000CAFE]) := by decide
/-- V-WK-16: a match with the null callback. -/
theorem test_evTick_null_callback :
    (after .evTick { running 7 with compare := 8, cmpArmed := true }).map (fun t => (t.counter, t.cmpArmed, t.out)) =
      some (8, false, []) := by decide
/-- V-TMR-13: two expiries, ascending handle order. -/
theorem test_evTmrtick_two_expire :
    (after .evTmrtick (pool [armedSlot 0x7001 12 1, armedSlot 0x7002 12 1])).map (fun t => (t.timers, t.out)) =
      some ([createdSlot 0x7001 12, createdSlot 0x7002 12],
        [.notification 0xF000020000007001, .notification 0xF000020100007002]) := by decide
/-- V-EV-6. -/
theorem test_evTmrtick_idle :
    (after .evTmrtick (pool [createdSlot 1 12, TimerSlot.free])).map (fun t => (t.timers, t.out)) =
      some ([createdSlot 1 12, TimerSlot.free], []) := by decide
/-- V-GP-29: the edge does not match, the filter is off. -/
theorem test_evPinirq_dispatches :
    words (.evPinirq 5 .falling) (setHandler (pin5 armedPin) 5 0x5005) =
      some [.notification 0xF000030500005005] := by decide
/-- V-GP-30: the same, the filter on. -/
theorem test_evPinirq_filtered :
    exec (.evPinirq 5 .falling) { pin5 armedPin with cfg := shortConfig 2 (by decide) true } =
      .refused .filteredEvent := by rfl
/-- V-GP-35. -/
theorem test_evPinlvl :
    (after (.evPinlvl 31 true) block).map (fun t => (pinInWord t, t.out)) = some (0x80000000, []) := by decide
/-- V-EV-9. -/
theorem test_evHwok :
    (after (.evHwok false) (running 3)).map (fun t => (t.hwOk, t.ctrRun, t.counter, t.out)) =
      some (false, true, 3, []) := by decide
/-- V-EV-10: the block at its reset values, `HW_OK` and `PIN_IN` kept. -/
theorem test_evReset :
    (after .evReset (setLevel { setHandler (pin5 armedPin) 5 0x5005 with tsBase := 77, wkCb := 0xCAFE } 5 true)).map
      (fun t => (t.tsBase, t.wkCb, pin t 5, handler t 5)) = some (0, 0, PinRecord.unconfigured, 0) ∧
    (after .evReset (setLevel block 5 true)).map (fun t => (t.hwOk, pinInWord t)) = some (true, 0x20) := by decide

/-! ## Witnesses: for each statement with hypotheses, cases that meet them, one for each clause and each end of a range -/

/-- A pool of two timers, the first Armed with two ticks to go. -/
def armedPool : State := pool [armedSlot 0x7001 12 2, createdSlot 0x7002 10]

theorem armedPool_ok : PoolOk armedPool := by
  refine ⟨rfl, ?_, 2, by decide⟩
  unfold SlotOk
  decide

theorem freePool_ok : PoolOk (pool [TimerSlot.free, TimerSlot.free]) := by
  refine ⟨rfl, ?_, 0, by decide⟩
  unfold SlotOk
  decide

theorem witness_PowerUpLeavesTheResetValues :
    0 < State.reset.cfg.nTimers ∧ 7 < State.reset.cfg.nTimers := by decide

theorem witness_StepRunsTheDecodedInstruction :
    (presentFirst ⟨.event, 0xE400010000000000⟩ block).input = [⟨.event, 0xE400010000000000⟩] ∧
    decode .event 0xE400010000000000 = .stimulus (.evHwok true) := by decide

theorem witness_IllegalCommandWordsAreThoseOfTheRule :
    (presentFirst ⟨.command, 0x5700000000000000⟩ block).input = [⟨.command, 0x5700000000000000⟩] ∧
    decode .command 0x5700000000000000 = .illegal .unassignedOpcode := by decide

theorem witness_MalformedEventsAreRefused :
    (presentFirst ⟨.event, 0xE000000000000001⟩ block).input = [⟨.event, 0xE000000000000001⟩] ∧
    decode .event 0xE000000000000001 = .refused .reservedBit := by decide

theorem witness_DecodeOfEncodeIsTheInstruction :
    (Instr.gpArm 31 .both 7 0xFFFFFFFF).wellFormed = true ∧ (Instr.evPinirq 0 .rising).wellFormed = true := by decide

theorem witness_EncodeOfDecodeIsTheWord :
    decode .command 0x5107061FFFFFFFFF = .stimulus (.gpArm 31 .both 7 0xFFFFFFFF) := by decide

theorem witness_CtrInitStartsTheCounter :
    (running 5).ctrRun = true ∧ ({ block with hwOk := false } : State).ctrRun = false ∧
    ({ block with hwOk := false } : State).hwOk = false ∧ block.ctrRun = false ∧ block.hwOk = true := by decide

theorem witness_CtrSetcmpProgramsTheCompare : block.ctrRun = false ∧ (running 0).ctrRun = true := by decide

theorem witness_CtrTestovfPreloadsTheCounter : (running 0).ctrRun = true ∧ block.ctrRun = false := by decide

/-- The three clauses; 15 and 16 seconds at `F = 1` are the two sides of the bound. -/
theorem witness_WkSchedProgramsTheWakeup :
    block.ctrRun = false ∧
    ({ running 0 with cfg := unit } : State).ctrRun = true ∧ 2 ^ unit.w - 1 < (16#32).toNat * unit.f ∧
    (15#32).toNat * unit.f ≤ 2 ^ unit.w - 1 := by decide

/-- The clauses meet at `t + delta = MAX_TICKS`: 7 + 8 is not across the wrap, 8 + 8 is. -/
theorem witness_WakeupDelayIsTheRulesFormula :
    (∃ t, exec (.wkSched 8) { running 7 with cfg := unit } = .next t) ∧
    7 ≤ maxTicks unit ∧ 0 ≤ maxTicks unit ∧ 8 * unit.f ≤ 2 ^ unit.w - 1 ∧
    7 + (8#32).toNat * unit.f ≤ 2 ^ unit.w - 1 ∧ 1 ≤ (8#32).toNat ∧
    (0#32).toNat = 0 ∧
    2 ^ unit.w - 1 < 8 + (8#32).toNat * unit.f ∧
    CounterInRange { running 7 with cfg := unit } ∧ CounterInRange { running 8 with cfg := unit } :=
  ⟨⟨_, rfl⟩, by decide, by decide, by decide, by decide, by decide, by decide, by decide,
    ⟨by decide, by decide⟩, ⟨by decide, by decide⟩⟩

/-- A full pool; the first slot free; the last slot free after a created one. -/
theorem witness_TmrCreateBindsTheLowestFreeSlot :
    (∀ h < short.nTimers, ∃ t, armedPool.timers[h]? = some t ∧ t.created = true) ∧
    (0 < short.nTimers ∧ ∃ t, (pool [TimerSlot.free, TimerSlot.free]).timers[0]? = some t ∧ t.created = false) ∧
    (1 < short.nTimers ∧
      (∃ t, (pool [createdSlot 1 0, TimerSlot.free]).timers[1]? = some t ∧ t.created = false) ∧
      ∀ k < 1, ∃ t, (pool [createdSlot 1 0, TimerSlot.free]).timers[k]? = some t ∧ t.created = true) := by
  refine ⟨fun h hh => ?_, ⟨by decide, _, rfl, rfl⟩, by decide, ⟨_, rfl, rfl⟩, fun k hk => ?_⟩
  · have : h < 2 := hh
    interval_cases h
    · exact ⟨_, rfl, rfl⟩
    · exact ⟨_, rfl, rfl⟩
  · interval_cases k
    exact ⟨_, rfl, rfl⟩

/-- An index at the end of the pool, a slot not created, a created slot at the last index. -/
theorem witness_TmrSettoClampsTheTimeout :
    short.nTimers ≤ (2 : Handle).toNat ∧
    (∃ t, (pool [createdSlot 1 0, TimerSlot.free]).timers[(1 : Handle).toNat]? = some t ∧ t.created = false) ∧
    (1 : Handle).toNat < short.nTimers ∧
    (∃ t, armedPool.timers[(1 : Handle).toNat]? = some t ∧ t.created = true) :=
  ⟨by decide, ⟨_, rfl, rfl⟩, by decide, _, rfl, rfl⟩

theorem witness_TmrStartArmsTheCountdown :
    short.nTimers ≤ (255 : Handle).toNat ∧ (0 : Handle).toNat < short.nTimers ∧
    (∃ t, (pool [createdSlot 1 0, TimerSlot.free]).timers[(0 : Handle).toNat]? = some t ∧ t.created = true ∧
      t.timeoutMs = 0) ∧
    (∃ t, armedPool.timers[(0 : Handle).toNat]? = some t ∧ t.created = true ∧ t.timeoutMs ≠ 0) :=
  ⟨by decide, by decide, ⟨_, rfl, rfl, rfl⟩, _, rfl, rfl, by decide⟩

theorem witness_TmrStopCancelsTheCountdown :
    short.nTimers ≤ (2 : Handle).toNat ∧
    (∃ t, (pool [createdSlot 1 0, TimerSlot.free]).timers[(1 : Handle).toNat]? = some t ∧ t.created = false) ∧
    (0 : Handle).toNat < short.nTimers ∧
    (∃ t, armedPool.timers[(0 : Handle).toNat]? = some t ∧ t.created = true) :=
  ⟨by decide, ⟨_, rfl, rfl⟩, by decide, _, rfl, rfl⟩

theorem witness_GpCfgConfiguresAnUnconfiguredPin :
    (pin (pin5 inputPin) 5).initialized = true ∧ (pin block 5).initialized = false ∧
    PinMode.input = .input ∧ PinMode.output = .output := by decide

theorem witness_GpArmStoresTheHandler :
    Edge.rising ≠ .none ∧ (pin block 5).initialized = false ∧ (pin (pin5 outputPin) 5).mode ≠ .input ∧
    (pin (pin5 armedPin) 5).initialized = true ∧ (pin (pin5 armedPin) 5).mode = .input := by decide

theorem witness_GpWriteAndToggleDriveAnOutput :
    (pin block 5).initialized = false ∧ (pin (pin5 inputPin) 5).mode ≠ .output ∧
    (pin (pin5 outputPin) 5).initialized = true ∧ (pin (pin5 outputPin) 5).mode = .output := by decide

theorem witness_GpReadReturnsThePadLevel :
    (pin block 31).initialized = false ∧ (pin (pin5 outputPin) 5).mode ≠ .input ∧
    (pin (pin5 inputPin) 5).initialized = true ∧ (pin (pin5 inputPin) 5).mode = .input := by decide

theorem witness_GpDeinitReturnsThePinToReset :
    (pin block 0).initialized = false ∧ (pin (pin5 armedPin) 5).initialized = true := by decide

/-- An armed pin under a command of its own, and another pin. -/
theorem witness_GpioCommandsFollowThePinStateMachine :
    (Instr.gpArm 5 .both 0 1).wellFormed = true ∧ commandPin (.gpArm 5 .both 0 1) = some 5 ∧
    (∃ t, exec (.gpArm 5 .both 0 1) (pin5 armedPin) = .next t) ∧ (0 : Pin) ≠ 5 :=
  ⟨by decide, by decide, ⟨_, rfl⟩, by decide⟩

theorem witness_GpRearmEndsAsGpArm :
    Edge.both ≠ .none ∧
    (isInput (pin5 armedPin) 5 = true ∧ ∃ t, exec (.gpArm 5 .both 7 9) (pin5 armedPin) = .next t) ∧
    (isInput (pin5 outputPin) 5 = false ∧ PinOk (pin (pin5 outputPin) 5) ∧
      ∃ t, exec (.gpArm 5 .both 7 9) (pin5 outputPin) = .next t) ∧
    isInput block 31 = false ∧ PinOk (pin block 31) := by
  refine ⟨by decide, ⟨by decide, _, rfl⟩, ⟨by decide, ?_, _, rfl⟩, by decide, ?_⟩ <;> (unfold PinOk; decide)

/-- Stopped; the overflow, without and with a match; a match with a null and with a registered callback. -/
theorem witness_EvTickCountsAndMatches :
    block.ctrRun = false ∧
    ((running 0xFFFFFF).ctrRun = true ∧ (running 0xFFFFFF).counter.toNat = 2 ^ (running 0xFFFFFF).cfg.w - 1 ∧
      (running 0xFFFFFF).cmpArmed = false) ∧
    ((0 : BitVec 32) = ({ running 0xFFFFFF with cmpArmed := true } : State).compare ∧
      ({ running 0xFFFFFF with cmpArmed := true } : State).wkCb = 0) ∧
    ((running 7).counter + 1 = ({ running 7 with compare := 8, cmpArmed := true, wkCb := 0xCAFE } : State).compare ∧
      ({ running 7 with compare := 8, cmpArmed := true, wkCb := 0xCAFE } : State).wkCb ≠ 0) ∧
    (running 6).counter + 1 ≠ ({ running 6 with compare := 8, cmpArmed := true } : State).compare := by decide

theorem witness_EvTmrtickCountsDownEverySlot : PoolOk armedPool := armedPool_ok

/-- Unfiltered; filtered and enabled with a matching edge; filtered and disabled; filtered with another edge. -/
theorem witness_EvPinirqDispatchesTheHandler :
    (pin5 armedPin).cfg.gpioEnvFiltered = false ∧
    (shortConfig 2 (by decide) true).gpioEnvFiltered = true ∧
    ((pin (pin5 armedPin) 5).evtEn = true ∧ (pin (pin5 armedPin) 5).irqMode.code &&& Edge.rising.code ≠ 0) ∧
    (pin (pin5 inputPin) 5).evtEn = false ∧
    (pin (pin5 armedPin) 5).irqMode.code &&& Edge.falling.code = 0 ∧
    handler block 5 = 0 ∧ handler (setHandler block 5 0x5005) 5 ≠ 0 := by decide

theorem witness_TimestampIsContinuousAcrossTheOverflow :
    (running 0xFFFFFF).ctrRun = true ∧ (running 0xFFFFFF).counter.toNat = 2 ^ (running 0xFFFFFF).cfg.w - 1 ∧
    ∃ t, exec .evTick (running 0xFFFFFF) = .next t := ⟨by decide, by decide, _, rfl⟩

/-- A value returned, a value not returned, an error, and `TMR_CREATE`. -/
theorem witness_CommandsAnswerTheTabledStatus :
    (Instr.tmrNow.wellFormed = true ∧ Instr.tmrNow.port = .command ∧ returnsValue .tmrNow = true) ∧
    (Instr.tmrStop 0).port = .command ∧ returnsValue (.tmrStop 0) = false ∧
    tableStatus (.tmrCreate 1) armedPool = .eNores ∧ PoolOk armedPool :=
  ⟨by decide, by decide, by decide, by decide, armedPool_ok⟩

theorem witness_EventsOnlyNotify :
    Instr.evTmrtick.port = .event ∧ ∃ t, exec .evTmrtick (pool [armedSlot 9 12 1, TimerSlot.free]) = .next t ∧
      t.out = [.notification 0xF000020000000009] := ⟨by decide, _, rfl, by decide⟩

theorem witness_NoWellFormedStimulusIsRefused :
    (Instr.evPinirq 5 .falling).wellFormed = true ∧ block.cfg.gpioEnvFiltered = false := by decide

theorem witness_OnlyArmAndResetWriteTheHandlers :
    (∃ t, exec (.gpArm 5 .rising 2 0x5005) (pin5 inputPin) = .next t ∧
      handler t 5 ≠ handler (pin5 inputPin) 5) ∧
    ∃ t, exec .evReset (setHandler block 5 0x5005) = .next t ∧ handler t 5 ≠ handler (setHandler block 5 0x5005) 5 :=
  ⟨⟨_, rfl, by decide⟩, _, rfl, by decide⟩

theorem witness_OnlyTheirEventsWriteTheInputs :
    (∃ t, exec (.evHwok false) block = .next t ∧ t.hwOk ≠ block.hwOk) ∧
    ∃ t, exec (.evPinlvl 31 true) block = .next t ∧ level t 31 ≠ level block 31 :=
  ⟨⟨_, rfl, by decide⟩, _, rfl, by decide⟩

theorem witness_ContextsWriteOnlyWhatTheyMay :
    (context .evTick = .interrupt ∧ Instr.evTick ≠ .evReset ∧ ∃ t, exec .evTick (running 0) = .next t) ∧
    context (.gpRead 5) = .foreground ∧ ∃ t, exec (.gpRead 5) (pin5 inputPin) = .next t :=
  ⟨⟨by decide, by decide, _, rfl⟩, by decide, _, rfl⟩

/-- Two blocks that differ in the priority of pin 5, each with a step; and one pair with none. -/
theorem witness_PrioritiesAreReadByNoRule :
    forgetPriorities (pin5 armedPin) = forgetPriorities (pin5 { armedPin with prio := 7 }) ∧
    (∃ t, step (presentFirst ⟨.command, 0x5500000500000000⟩ (pin5 armedPin)) = .next t) ∧
    step (pin5 armedPin) = .refused .noStimulus :=
  ⟨by simp [forgetPriorities, pin5, setPin, Vector.map_set], ⟨_, rfl⟩, rfl⟩

/-- A firing, a cancelling and a resetting end of a request. -/
theorem witness_RequestEndsByFiringOrCancelling :
    StoppedAtReset { running 7 with compare := 8, cmpArmed := true } ∧
    (∃ t, exec .evTick { running 7 with compare := 8, cmpArmed := true } = .next t ∧ t.cmpArmed = false) ∧
    (∃ t, exec (.ctrSetcmp 0 false) { running 7 with compare := 8, cmpArmed := true } = .next t ∧ t.cmpArmed = false) ∧
    ∃ t, exec .evReset { running 7 with compare := 8, cmpArmed := true } = .next t ∧ t.cmpArmed = false :=
  ⟨fun h => absurd h (by decide), ⟨_, rfl, by decide⟩, ⟨_, rfl, by decide⟩, _, rfl, by decide⟩

/-- Each premise met: a timer created, reset, stopped, started. -/
theorem witness_TimersFollowTheirLifecycle :
    (PoolOk (pool [TimerSlot.free, TimerSlot.free]) ∧
      ∃ t, exec (.tmrCreate 7) (pool [TimerSlot.free, TimerSlot.free]) = .next t ∧
        (slot (pool [TimerSlot.free, TimerSlot.free]) 0).created = false ∧ (slot t 0).created = true) ∧
    PoolOk armedPool ∧
    (∃ t, exec .evReset armedPool = .next t ∧ (slot armedPool 0).created = true ∧ (slot t 0).created = false) ∧
    (∃ t, exec (.tmrStop 0) armedPool = .next t ∧ (slot armedPool 0).state = .armed ∧ (slot t 0).state = .idle) ∧
    ∃ t, exec (.tmrStart 1) armedPool = .next t ∧ (slot armedPool 1).state = .idle ∧ (slot t 1).state = .armed :=
  ⟨⟨freePool_ok, _, rfl, by decide, by decide⟩, armedPool_ok, ⟨_, rfl, by decide, by decide⟩,
    ⟨_, rfl, by decide, by decide⟩, _, rfl, by decide, by decide⟩

/-- A block in use that meets the invariant, with a step. -/
theorem witness_EveryStepKeepsTheBlockWellFormed :
    Inv (presentFirst ⟨.event, 0xE100000000000000⟩ armedPool) ∧
    ∃ t, step (presentFirst ⟨.event, 0xE100000000000000⟩ armedPool) = .next t := by
  refine ⟨⟨⟨by decide, by decide⟩, fun _ => ⟨rfl, rfl, rfl⟩, armedPool_ok, fun p => ?_⟩, _, rfl⟩
  have h : pin (presentFirst ⟨.event, 0xE100000000000000⟩ armedPool) p = PinRecord.unconfigured := by
    simp [pin, presentFirst, armedPool, pool, block, State.reset, State.powerUp]
  rw [h]
  unfold PinOk
  decide

/-- Two ticks of a short block, the second of them an overflow. -/
def twoTicks : State := { running 14 with cfg := short, input := [counterTick, counterTick] }

theorem twoTicks_keep_time : ∀ x ∈ twoTicks.input, stimulusInstr x = some .evTick := by decide

theorem witness_TraceReadsBackTheWords : 0 < 8 ∧ 7 < 8 ∧ 0 < [(0x1000000000000000 : Word)].length := by decide

theorem witness_BaseCountsTheOverflows :
    (∀ x ∈ twoTicks.input.take 2, (∀ b, stimulusInstr x ≠ some (.clkUpdate b)) ∧ stimulusInstr x ≠ some .evReset) ∧
    ∃ t, Host.Core.run Sys2Proof.core 2 twoTicks = .next t :=
  ⟨fun x hx => by rw [twoTicks_keep_time x hx]; simp, _, rfl⟩

theorem witness_FullPeriodsAccumulate :
    ({ running 0 with cfg := short, input := List.replicate (1 * 2 ^ 4) counterTick ++ [] } : State).ctrRun = true ∧
    ({ running 0 with cfg := short, input := List.replicate (1 * 2 ^ 4) counterTick ++ [] } : State).counter = 0 := by
  decide

theorem witness_TimestampDoesNotDecrease :
    CounterInRange twoTicks ∧
    (∀ x ∈ twoTicks.input.take 2, ∀ i, stimulusInstr x = some i → rewritesTime i = false) ∧
    ∃ t, Host.Core.run Sys2Proof.core 2 twoTicks = .next t ∧
      twoTicks.tsBase.toNat + overflowCount 2 twoTicks * ((2 ^ twoTicks.cfg.w - 1) / twoTicks.cfg.f) +
        t.counter.toNat / twoTicks.cfg.f < 2 ^ 32 := by
  refine ⟨⟨by decide, by decide⟩, fun x hx i h => ?_, _, rfl, by decide⟩
  rw [twoTicks_keep_time x hx] at h
  cases h
  rfl

/-- A request due on the next tick. -/
def dueWakeup : State := { running 7 with compare := 8, cmpArmed := true, wkCb := 0xCAFE, input := [counterTick] }

theorem witness_WakeupFiresOnceAfterTheRulesTicks :
    CounterInRange dueWakeup ∧ dueWakeup.ctrRun = true ∧ dueWakeup.cmpArmed = true ∧ dueWakeup.wkCb ≠ 0 ∧
    ticksToMatch dueWakeup = 1 ∧ dueWakeup.input = List.replicate 1 counterTick ++ [] :=
  ⟨⟨by decide, by decide⟩, by decide, by decide, by decide, by decide, by decide⟩

theorem witness_TimerExpiresOnItsLastTick :
    PoolOk { armedPool with input := [timerTick, timerTick] } ∧
    armedPool.timers[0]? = some (armedSlot 0x7001 12 2) ∧ (armedSlot 0x7001 12 2).state = .armed ∧
    (armedSlot 0x7001 12 2).cb ≠ 0 ∧
    [timerTick, timerTick] = List.replicate (armedSlot 0x7001 12 2).remaining.toNat timerTick ++ [] :=
  ⟨armedPool_ok, by decide, by decide, by decide, by decide⟩

/-- Ticks without end: a run of the block from power-up that has no last step. -/
theorem ticks_run_forever :
    IsRunFrom (State.powerUp short true (Vector.replicate 32 false)) (fun _ => counterTick)
      (fun _ => State.powerUp short true (Vector.replicate 32 false)) .infinite := ⟨rfl, fun _ _ => rfl⟩

theorem witness_EveryStimulusSequenceMakesAnInfiniteRun :
    block.cfg.gpioEnvFiltered = false ∧ ∀ why, decode counterTick.port counterTick.word ≠ .refused why :=
  ⟨by decide, fun why h => by rw [show decode counterTick.port counterTick.word = .stimulus .evTick by decide] at h; cases h⟩

/-- An infinite run, any number of whose steps is a run of the machine; and its observations. -/
theorem witness_RunsAreRunsOfTheMachine :
    IsRun (fun _ => counterTick) (fun _ => State.powerUp short true (Vector.replicate 32 false)) .infinite ∧
    ∀ k < 2, Extent.infinite.hasStep k := ⟨⟨_, _, _, ticks_run_forever⟩, fun _ _ => trivial⟩

/-- The command that writes a level to pin 5 (R129). -/
def writePin5 (v : Bool) : Stimulus := ⟨.command, if v then 0x5300010500000000 else 0x5300000500000000⟩

/-- Pin 5 a high output, written `v` and then high again: the states of the two steps. -/
def writeThenHigh (v : Bool) (n : Nat) : State :=
  if n = 0 then pin5 outputPin
  else if n = 1 then { pin5 { outputPin with outLevel := v } with out := [.response 0] }
  else { pin5 outputPin with out := [.response 0, .response 0] }

theorem writeThenHigh_isRun (v : Bool) :
    IsRunFrom (pin5 outputPin) (fun n => writePin5 (if n = 0 then v else true)) (writeThenHigh v) (.finite 2) := by
  refine ⟨rfl, fun n hn => ?_⟩
  have : n < 2 := hn
  cases v <;> interval_cases n <;> rfl

theorem witness_ObservationsOnlyGrow :
    IsRunFrom (pin5 outputPin) (fun n => writePin5 (if n = 0 then false else true)) (writeThenHigh false) (.finite 2) ∧
    ∀ k ≤ 1, (Extent.finite 2).hasStep k := ⟨writeThenHigh_isRun false, fun _ hk => Nat.lt_succ_of_le hk⟩

/-- R24, R195: the pulse is observed, though it ends in the state that writing the level already driven ends in. -/
theorem test_pulse_is_observed :
    writeThenHigh false 2 = writeThenHigh true 2 ∧ observe (writeThenHigh false) 2 ≠ observe (writeThenHigh true) 2 := by
  decide

end Sys2Proof.Tests
end

/-! SUPPORT. The state family: what an executed instruction does to the state, said once (`Effect`), the invariant of the block
under each effect, and the priorities, which no rule reads. -/

namespace Sys2Proof.Proofs

open Sys2Proof.Machine Sys2Proof.Safety

/-! ## What an executed instruction does -/

/-- Every way an instruction has a next state, with the guard it was taken under. The fields a next state does not name are
those of `s`. -/
inductive Effect (s : State) : Instr → State → Prop
  /-- A command that answers and writes nothing: an error, a read, `CTR_TESTOVF` while stopped. -/
  | answer {i st d} (command : i.port = .command) : Effect s i (respond st d s)
  | ctrInit (stopped : s.ctrRun = false) (ready : s.hwOk = true) :
      Effect s .ctrInit (respond .ok 0 { s with ctrRun := true, counter := 0, compare := 0, cmpArmed := false })
  | ctrSetcmp {d e} (running : s.ctrRun = true) :
      Effect s (.ctrSetcmp d e) (respond .ok 0 { s with compare := truncW s.cfg d.toNat, cmpArmed := e })
  | ctrTestovf (running : s.ctrRun = true) :
      Effect s .ctrTestovf (respond .ok 0 { s with counter := BitVec.ofNat 32 s.cfg.testOvfPreload })
  | clkUpdate {b} : Effect s (.clkUpdate b) (respond .ok 0 { s with tsBase := b })
  | wkSched {d} (running : s.ctrRun = true) (bounded : wakeTooLong s.cfg d = false) :
      Effect s (.wkSched d) (respond .ok 0
        { s with
          compare := truncW s.cfg (wakeTarget s.cfg s.counter.toNat (wakeDelta s.cfg d))
          cmpArmed := true })
  | wkSetcb {cb} : Effect s (.wkSetcb cb) (respond .ok 0 { s with wkCb := cb })
  | tmrCreate {cb h} (least : freeSlot s = some h) :
      Effect s (.tmrCreate cb) (respond .ok (BitVec.ofNat 32 h)
        (setSlot s h { created := true, cb := cb, timeoutMs := 0, state := .idle, remaining := 0 }))
  | tmrSetto {h ms} (valid : validHandle s h = true) :
      Effect s (.tmrSetto h ms) (respond .ok 0 (setSlot s h.toNat { slot s h with timeoutMs := clampTimeout ms }))
  | tmrStart {h} (valid : validHandle s h = true) (timeout : (slot s h).timeoutMs ≠ 0) :
      Effect s (.tmrStart h) (respond .ok 0 (setSlot s h.toNat
        { slot s h with
          remaining := BitVec.ofNat 48 (startTicks s.cfg (slot s h).timeoutMs)
          state := .armed }))
  | tmrStop {h} (valid : validHandle s h = true) :
      Effect s (.tmrStop h) (respond .ok 0 (setSlot s h.toNat { slot s h with state := .idle, remaining := 0 }))
  | gpCfg {p mode pull v} (unconfigured : (pin s p).initialized = false) :
      Effect s (.gpCfg p mode pull v) (respond .ok 0 (setPin s p
        { initialized := true, mode := mode, pull := pull, senseToggle := mode == .input, irqMode := .none,
          evtEn := false, prio := 0, outLevel := mode == .output && v }))
  | gpArm {p e prio cb} (edge : e ≠ .none) (input : isInput s p = true) :
      Effect s (.gpArm p e prio cb) (respond .ok 0 (setPin (setHandler s p cb) p
        { teardownSensing (pin s p) with irqMode := e, prio := prio, evtEn := true }))
  | gpDisarm {p} : Effect s (.gpDisarm p) (respond .ok 0 (setPin s p { pin s p with evtEn := false }))
  /-- `GP_WRITE` of the level, or `GP_TOGGLE`, for which it is the complement of the pin's level. -/
  | drive {i p v} (command : i = .gpWrite p v ∨ i = .gpToggle p ∧ v = !(pin s p).outLevel)
      (output : isOutput s p = true) : Effect s i (respond .ok 0 (setPin s p { pin s p with outLevel := v }))
  | gpDeinit {p} (configured : (pin s p).initialized = true) :
      Effect s (.gpDeinit p) (respond .ok 0 (setPin s p PinRecord.unconfigured))
  | stoppedTick (stopped : s.ctrRun = false) : Effect s .evTick s
  /-- A counted tick (R156): the new count and base, then the compare match on the new count. -/
  | tick {c b armed ws} (running : s.ctrRun = true)
      (count : (s.counter.toNat = maxTicks s.cfg ∧ c = 0 ∧ b = accumulate s.cfg s.tsBase) ∨
        (s.counter.toNat ≠ maxTicks s.cfg ∧ c = s.counter + 1 ∧ b = s.tsBase))
      (fire : (s.cmpArmed = true ∧ c = s.compare ∧ armed = false ∧ ws = notices .wakeup 0 s.wkCb) ∨
        ((s.cmpArmed = false ∨ c ≠ s.compare) ∧ armed = s.cmpArmed ∧ ws = [])) :
      Effect s .evTick { s with counter := c, tsBase := b, cmpArmed := armed, out := s.out ++ ws }
  | evTmrtick : Effect s .evTmrtick (tickTimers s)
  | evPinirq {p e} (delivered : envDelivers s p e = true) :
      Effect s (.evPinirq p e) (notify .gpio (BitVec.setWidth 8 p) (handler s p) s)
  | evPinlvl {p b} : Effect s (.evPinlvl p b) (setLevel s p b)
  | evHwok {ok} : Effect s (.evHwok ok) { s with hwOk := ok }
  | evReset : Effect s .evReset (resetBlock s)

theorem effect_ite {s a b : State} {i : Instr} {c : Prop} [Decidable c] (pos : c → Effect s i a)
    (neg : ¬c → Effect s i b) : Effect s i (if c then a else b) := by
  split
  · exact pos ‹_›
  · exact neg ‹_›

/-- A match on the count that `advanceCounter` left, or none, is a counted tick (R156). -/
theorem effect_match {s : State} {c b : BitVec 32} (running : s.ctrRun = true)
    (count : (s.counter.toNat = maxTicks s.cfg ∧ c = 0 ∧ b = accumulate s.cfg s.tsBase) ∨
      (s.counter.toNat ≠ maxTicks s.cfg ∧ c = s.counter + 1 ∧ b = s.tsBase)) :
    Effect s .evTick (compareMatch { s with counter := c, tsBase := b }) := by
  obtain ⟨armed, hit, e⟩ | ⟨miss, e⟩ := compareMatch_cases { s with counter := c, tsBase := b }
  · rw [e]
    exact .tick running count (.inl ⟨armed, hit, rfl, rfl⟩)
  · rw [e]
    simpa using Effect.tick running count (.inr ⟨miss, rfl, rfl⟩)

/-- The overflow update comes before the match (R156, R163 (a)). -/
theorem effect_tick {s : State} (running : s.ctrRun = true) : Effect s .evTick (compareMatch (advanceCounter s)) := by
  obtain ⟨overflow, e⟩ | ⟨more, e⟩ := advanceCounter_cases s
  · rw [e]
    exact effect_match running (.inl ⟨overflow, rfl, rfl⟩)
  · rw [e]
    exact effect_match running (.inr ⟨more, rfl, rfl⟩)

/-- `EV_PINIRQ` has a next state only for an event the environment produces (R62, R159). -/
theorem execEvPinirq_next {p : Pin} {e : Edge} {s t : State} (h : execEvPinirq p e s = .next t) :
    envDelivers s p e = true ∧ t = notify .gpio (BitVec.setWidth 8 p) (handler s p) s := by
  unfold execEvPinirq at h
  split at h
  · cases h
  · split at h
    · cases h
    · next hd => cases h; exact ⟨by simpa using hd, rfl⟩

/-- The one inversion of `exec`: a next state is one of the effects. -/
theorem exec_effect {i : Instr} {s t : State} (h : exec i s = .next t) : Effect s i t := by
  cases i with
  | ctrInit =>
    cases h
    exact effect_ite (fun _ => .answer rfl) fun hr => effect_ite (fun _ => .answer rfl) fun hw =>
      .ctrInit (by simpa using hr) (by simpa using hw)
  | ctrRead | ctrMax | clkGet | tmrNow | tmrElapsed _ => cases h; exact .answer rfl
  | ctrSetcmp d e => cases h; exact effect_ite (fun _ => .answer rfl) fun hr => .ctrSetcmp (by simpa using hr)
  | ctrTestovf =>
    cases h
    split
    · exact .ctrTestovf ‹_›
    · exact .answer rfl
  | clkUpdate b => cases h; exact .clkUpdate
  | wkSched d =>
    cases h
    exact effect_ite (fun _ => .answer rfl) fun hr => effect_ite (fun _ => .answer rfl) fun hb =>
      .wkSched (by simpa using hr) (by simpa using hb)
  | wkSetcb cb => cases h; exact .wkSetcb
  | tmrCreate cb =>
    cases h
    split
    · exact .answer rfl
    · exact .tmrCreate ‹_›
  | tmrSetto hd ms => cases h; exact effect_ite (fun _ => .answer rfl) fun hv => .tmrSetto (by simpa using hv)
  | tmrStart hd =>
    cases h
    exact effect_ite (fun _ => .answer rfl) fun hv => effect_ite (fun _ => .answer rfl) fun hm =>
      .tmrStart (by simpa using hv) hm
  | tmrStop hd => cases h; exact effect_ite (fun _ => .answer rfl) fun hv => .tmrStop (by simpa using hv)
  | gpCfg p m u v => cases h; exact effect_ite (fun _ => .answer rfl) fun hu => .gpCfg (by simpa using hu)
  | gpArm p e r cb =>
    cases h
    exact effect_ite (fun _ => .answer rfl) fun he => effect_ite (fun _ => .answer rfl) fun hi =>
      .gpArm he (by simpa using hi)
  | gpDisarm p => cases h; exact .gpDisarm
  | gpWrite p v => cases h; exact effect_ite (fun _ => .answer rfl) fun ho => .drive (.inl rfl) (by simpa using ho)
  | gpToggle p =>
    cases h; exact effect_ite (fun _ => .answer rfl) fun ho => .drive (.inr ⟨rfl, rfl⟩) (by simpa using ho)
  | gpRead p => cases h; exact effect_ite (fun _ => .answer rfl) fun _ => .answer rfl
  | gpDeinit p => cases h; exact effect_ite (fun _ => .answer rfl) fun hc => .gpDeinit (by simpa using hc)
  | evTick => cases h; exact effect_ite effect_tick fun hr => .stoppedTick (by simpa using hr)
  | evTmrtick => cases h; exact .evTmrtick
  | evPinirq p e =>
    obtain ⟨hd, rfl⟩ := execEvPinirq_next h
    exact .evPinirq hd
  | evPinlvl p b => cases h; exact .evPinlvl
  | evHwok ok => cases h; exact .evHwok
  | evReset => cases h; exact .evReset

/-! ## Who writes the handlers and the inputs -/

/-- Settles O42: of the effects only `GP_ARM` and the reset touch the table, and `GP_ARM` sets one entry. -/
theorem onlyArmAndResetWriteTheHandlers : Obligations.OnlyArmAndResetWriteTheHandlers := by
  intro i q s t h written
  cases exec_effect h with
  | evReset => exact .inl rfl
  | @gpArm p e prio cb =>
    have hq : handler (setHandler s p cb) q ≠ handler s q := written
    by_cases hp : q = p
    · subst hp
      exact .inr ⟨e, prio, cb, rfl, (handler_setHandler s q q cb).trans (if_pos rfl)⟩
    · exact absurd ((handler_setHandler s p q cb).trans (if_neg hp)) hq
  | _ => exact absurd rfl written

/-- Settles O43: of the effects only `EV_HWOK` and `EV_PINLVL` touch an input, and `EV_PINLVL` sets one level. -/
theorem onlyTheirEventsWriteTheInputs : Obligations.OnlyTheirEventsWriteTheInputs := by
  intro i s t h
  cases exec_effect h with
  | evHwok => exact ⟨rfl, rfl, fun _ => ⟨_, rfl⟩, fun _ written => absurd rfl written⟩
  | @evPinlvl p b =>
    refine ⟨rfl, rfl, fun written => absurd rfl written, fun q written => ⟨b, ?_⟩⟩
    by_cases hp : q = p
    · rw [hp]
    · exact absurd ((level_setLevel s p q b).trans (if_neg hp)) written
  | _ => exact ⟨rfl, rfl, fun written => absurd rfl written, fun _ written => absurd rfl written⟩

/-! ## Reset values -/

theorem pin_powerUp (c : Config) (b : Bool) (l : Vector Bool 32) (p : Pin) :
    pin (State.powerUp c b l) p = PinRecord.unconfigured := by
  simp [pin]

theorem handler_powerUp (c : Config) (b : Bool) (l : Vector Bool 32) (p : Pin) :
    handler (State.powerUp c b l) p = 0 := by
  simp [handler]

/-- Settles O1, by the reset values of power-up with any parameters and draws. -/
theorem powerUpLeavesTheResetValues : Obligations.PowerUpLeavesTheResetValues := by
  refine ⟨rfl, rfl, rfl, rfl, rfl, rfl, fun h hh => ?_, fun p => pin_powerUp _ _ _ p, fun p => handler_powerUp _ _ _ p⟩
  exact List.getElem?_replicate_of_lt hh

/-! ## Slots and the pool (R18, R19) -/

theorem slotOk_free : SlotOk TimerSlot.free :=
  ⟨fun _ => rfl, .inl rfl, nofun, fun _ => rfl⟩

/-- A slot that `TMR_CREATE` hands out (R110). -/
theorem slotOk_fresh (cb : Token) :
    SlotOk { created := true, cb := cb, timeoutMs := 0, state := .idle, remaining := 0 } :=
  ⟨nofun, .inl rfl, nofun, fun _ => rfl⟩

theorem ten_le_clampTimeout (ms : BitVec 32) : 10 ≤ (clampTimeout ms).toNat := by
  unfold clampTimeout
  split
  · decide
  · omega

theorem clampTimeout_ne_zero (ms : BitVec 32) : clampTimeout ms ≠ 0 := fun h => by
  simpa [h] using ten_le_clampTimeout ms

theorem slotOk_setTimeout {t : TimerSlot} (ok : SlotOk t) (created : t.created = true) (ms : BitVec 32) :
    SlotOk { t with timeoutMs := clampTimeout ms } := by
  obtain ⟨-, -, harmed, hidle⟩ := ok
  exact ⟨fun h => by simp [created] at h, .inr (ten_le_clampTimeout ms),
    fun h => ⟨(harmed h).1, clampTimeout_ne_zero ms⟩, hidle⟩

theorem slotOk_start {t : TimerSlot} (ok : SlotOk t) (created : t.created = true) (timeout : t.timeoutMs ≠ 0)
    (c : Config) : SlotOk { t with remaining := BitVec.ofNat 48 (startTicks c t.timeoutMs), state := .armed } := by
  obtain ⟨-, hms, -, -⟩ := ok
  obtain ⟨hpos, hlt⟩ := startTicks_bounds c t.timeoutMs
  have hload : 1 ≤ (BitVec.ofNat 48 (startTicks c t.timeoutMs)).toNat := by
    rwa [BitVec.toNat_ofNat, Nat.mod_eq_of_lt hlt]
  exact ⟨fun h => by simp [created] at h, hms, fun _ => ⟨hload, timeout⟩, nofun⟩

theorem slotOk_stop {t : TimerSlot} (ok : SlotOk t) (created : t.created = true) :
    SlotOk { t with state := .idle, remaining := 0 } := by
  obtain ⟨-, hms, -, -⟩ := ok
  exact ⟨fun h => by simp [created] at h, hms, nofun, fun _ => rfl⟩

/-- A slot after a timer tick: it did not count, it expired, or it has one tick less (R157). -/
theorem tickSlot_cases (t : TimerSlot) :
    tickSlot t = t ∨
    (t.created = true ∧ t.state = .armed ∧ t.remaining - 1 = 0 ∧ tickSlot t = { t with remaining := 0, state := .idle }) ∨
    (t.created = true ∧ t.state = .armed ∧ t.remaining - 1 ≠ 0 ∧ tickSlot t = { t with remaining := t.remaining - 1 }) := by
  unfold tickSlot
  split
  · next armed =>
    obtain ⟨hc, ha⟩ := armed
    split
    · next last => exact .inr (.inl ⟨hc, ha, last, by rw [last]⟩)
    · next more => exact .inr (.inr ⟨hc, ha, more, rfl⟩)
  · exact .inl rfl

theorem slotOk_tickSlot {t : TimerSlot} (ok : SlotOk t) : SlotOk (tickSlot t) := by
  obtain e | ⟨hc, ha, hlast, e⟩ | ⟨hc, ha, hmore, e⟩ := tickSlot_cases t
  · rwa [e]
  · rw [e]
    exact slotOk_stop ok hc
  · obtain ⟨-, hms, harmed, -⟩ := ok
    rw [e]
    refine ⟨fun h => by simp [hc] at h, hms, fun _ => ⟨?_, (harmed ha).2⟩, fun h => by simp [ha] at h⟩
    exact Nat.one_le_iff_ne_zero.2 fun h => hmore (BitVec.eq_of_toNat_eq h)

theorem poolOk_powerUp (c : Config) (b : Bool) (l : Vector Bool 32) : PoolOk (State.powerUp c b l) := by
  refine ⟨by simp, fun t ht => ?_, 0, fun h hh => ?_⟩
  · rw [List.eq_of_mem_replicate ht]
    exact slotOk_free
  · simp [TimerSlot.free]

/-- The slot behind a valid handle is one of the pool's, and created (R116). -/
theorem slot_of_validHandle {s : State} {h : Handle} (pool : PoolOk s) (valid : validHandle s h = true) :
    ∃ hh : h.toNat < s.timers.length, slot s h = s.timers[h.toNat] ∧ SlotOk (slot s h) ∧ (slot s h).created = true := by
  obtain ⟨hlen, hslots, -⟩ := pool
  obtain ⟨hlt, hcreated⟩ := (validHandle_iff s h).1 valid
  have hh : h.toNat < s.timers.length := hlen ▸ hlt
  have e : slot s h = s.timers[h.toNat] := slot_of_getElem? (List.getElem?_eq_getElem hh)
  exact ⟨hh, e, e ▸ hslots _ (List.getElem_mem hh), hcreated⟩

theorem slotOk_of_mem_set {ts : List TimerSlot} {h : Nat} {x : TimerSlot} (old : ∀ t ∈ ts, SlotOk t) (new : SlotOk x) :
    ∀ t ∈ ts.set h x, SlotOk t := fun t ht => by
  obtain ht | rfl := List.mem_or_eq_of_mem_set ht
  · exact old t ht
  · exact new

/-- A write to a slot behind a valid handle that leaves it created keeps the pool well-formed. -/
theorem poolOk_setSlot {s : State} {h : Handle} {x : TimerSlot} (pool : PoolOk s) (valid : validHandle s h = true)
    (created : x.created = true) (ok : SlotOk x) : PoolOk (setSlot s h.toNat x) := by
  obtain ⟨hh, e, -, hcreated⟩ := slot_of_validHandle pool valid
  obtain ⟨hlen, hslots, k, hk⟩ := pool
  refine ⟨by simpa using hlen, slotOk_of_mem_set hslots ok, k, fun j hj => ?_⟩
  simp only [setSlot_timers, List.length_set] at hj
  simp only [setSlot_timers, List.getElem_set]
  split
  · next ej =>
    subst ej
    simpa [created, ← e, hcreated] using hk _ hj
  · exact hk j hj

/-- `TMR_CREATE` takes the first slot that is not created, so the created ones stay the first ones (R19, R110). -/
theorem poolOk_create {s : State} {h : Nat} (pool : PoolOk s) (least : freeSlot s = some h) (cb : Token) :
    PoolOk (setSlot s h { created := true, cb := cb, timeoutMs := 0, state := .idle, remaining := 0 }) := by
  obtain ⟨hlen, hslots, k, hk⟩ := pool
  obtain ⟨-, ⟨t, ht, hfree⟩, hbelow⟩ := (freeSlot_eq_some_iff s h).1 least
  obtain ⟨hh, rfl⟩ := List.getElem?_eq_some_iff.1 ht
  have hkh : k ≤ h := by
    by_contra hlt
    simp [(hk h hh).2 (by omega)] at hfree
  have hhk : h ≤ k := by
    by_contra hlt
    obtain ⟨u, hu, hcreated⟩ := hbelow k (by omega)
    obtain ⟨hkl, rfl⟩ := List.getElem?_eq_some_iff.1 hu
    exact absurd ((hk k hkl).1 hcreated) (lt_irrefl k)
  refine ⟨by simpa using hlen, slotOk_of_mem_set hslots (slotOk_fresh cb), h + 1, fun j hj => ?_⟩
  simp only [setSlot_timers, List.length_set] at hj
  simp only [setSlot_timers, List.getElem_set]
  split
  · simp; omega
  · rw [hk j hj]; omega

theorem poolOk_tickTimers {s : State} (pool : PoolOk s) : PoolOk (tickTimers s) := by
  obtain ⟨hlen, hslots, k, hk⟩ := pool
  refine ⟨by simpa [tickSlots_fst] using hlen, fun t ht => ?_, k, fun j hj => ?_⟩
  · rw [tickTimers_timers, tickSlots_fst] at ht
    obtain ⟨u, hu, rfl⟩ := List.mem_map.1 ht
    exact slotOk_tickSlot (hslots u hu)
  · simp only [tickTimers_timers, tickSlots_fst, List.length_map] at hj
    simpa [tickSlots_fst] using hk j hj

theorem Effect.poolOk {i : Instr} {s t : State} (effect : Effect s i t) (pool : PoolOk s) : PoolOk t := by
  cases effect with
  | tmrCreate least => exact poolOk_create pool least _
  | tmrSetto valid =>
    obtain ⟨-, -, ok, created⟩ := slot_of_validHandle pool valid
    exact poolOk_setSlot pool valid created (slotOk_setTimeout ok created _)
  | tmrStart valid timeout =>
    obtain ⟨-, -, ok, created⟩ := slot_of_validHandle pool valid
    exact poolOk_setSlot pool valid created (slotOk_start ok created timeout _)
  | tmrStop valid =>
    obtain ⟨-, -, ok, created⟩ := slot_of_validHandle pool valid
    exact poolOk_setSlot pool valid created (slotOk_stop ok created)
  | evTmrtick => exact poolOk_tickTimers pool
  | evReset => exact poolOk_powerUp s.cfg s.hwOk s.pinIn
  | _ => exact pool

/-! ## Pin records (R20, R21) -/

theorem pinOk_unconfigured : PinOk PinRecord.unconfigured := by
  unfold PinOk
  decide

/-- An armed input as `GP_ARM` leaves it (R127). -/
theorem pinOk_arm {r : PinRecord} (ok : PinOk r) (init : r.initialized = true) (input : r.mode = .input) {e : Edge}
    (edge : e ≠ .none) (prio : BitVec 3) :
    PinOk { teardownSensing r with irqMode := e, prio := prio, evtEn := true } := by
  obtain ⟨-, -, hinput, -⟩ := ok
  obtain ⟨hsense, hlevel⟩ := hinput init input
  unfold teardownSensing
  split <;> simp [PinOk, init, input, edge, hsense, hlevel]

theorem pinOk_disarm {r : PinRecord} (ok : PinOk r) : PinOk { r with evtEn := false } := by
  obtain ⟨-, houtput, hinput, hfree⟩ := ok
  refine ⟨nofun, fun hi hm => ⟨rfl, (houtput hi hm).2⟩, hinput, fun hi => ?_⟩
  rw [hfree hi]
  rfl

theorem pinOk_drive {r : PinRecord} (ok : PinOk r) (init : r.initialized = true) (output : r.mode = .output)
    (v : Bool) : PinOk { r with outLevel := v } := by
  obtain ⟨hevt, houtput, -, -⟩ := ok
  exact ⟨hevt, houtput, fun _ hm => by simp [output] at hm, fun hi => by simp [init] at hi⟩

theorem pinsOk_setPin {s : State} {p : Pin} {r : PinRecord} (old : ∀ q, PinOk (pin s q)) (new : PinOk r) (q : Pin) :
    PinOk (pin (setPin s p r) q) := by
  rw [pin_setPin]
  split
  · exact new
  · exact old q

theorem isInput_iff (s : State) (p : Pin) :
    isInput s p = true ↔ (pin s p).initialized = true ∧ (pin s p).mode = .input := by
  simp [isInput]

theorem isOutput_iff (s : State) (p : Pin) :
    isOutput s p = true ↔ (pin s p).initialized = true ∧ (pin s p).mode = .output := by
  simp [isOutput]

theorem Effect.pinsOk {i : Instr} {s t : State} (effect : Effect s i t) (ok : ∀ p, PinOk (pin s p)) :
    ∀ p, PinOk (pin t p) := by
  cases effect with
  | @gpCfg _ mode => exact pinsOk_setPin ok (by cases mode <;> simp [PinOk])
  | @gpArm p _ _ cb edge input =>
    obtain ⟨init, mode⟩ := (isInput_iff s p).1 input
    exact pinsOk_setPin (s := setHandler s p cb) ok (pinOk_arm (ok p) init mode edge _)
  | gpDisarm => exact pinsOk_setPin ok (pinOk_disarm (ok _))
  | @drive _ p v _ output =>
    obtain ⟨init, mode⟩ := (isOutput_iff s p).1 output
    exact pinsOk_setPin ok (pinOk_drive (ok p) init mode v)
  | gpDeinit => exact pinsOk_setPin ok pinOk_unconfigured
  | evReset => exact fun p => pin_powerUp s.cfg s.hwOk s.pinIn p ▸ pinOk_unconfigured
  | _ => exact ok

/-! ## The counter (R15, R80) -/

theorem Effect.counterInRange {i : Instr} {s t : State} (effect : Effect s i t) (range : CounterInRange s) :
    CounterInRange t := by
  obtain ⟨hcounter, hcompare⟩ := range
  cases effect with
  | ctrInit | evReset => exact ⟨Nat.zero_le _, Nat.zero_le _⟩
  | ctrSetcmp | wkSched => exact ⟨hcounter, truncW_le ..⟩
  | ctrTestovf => exact ⟨(Nat.mod_le ..).trans s.cfg.testOvfPreload_le, hcompare⟩
  | tick running count fire =>
    refine ⟨?_, hcompare⟩
    obtain ⟨-, rfl, -⟩ | ⟨hne, rfl, -⟩ := count
    · exact Nat.zero_le _
    · have hmax := maxTicks_lt s.cfg
      change (s.counter + 1).toNat ≤ maxTicks s.cfg
      bv_omega
  | _ => exact ⟨hcounter, hcompare⟩

theorem Effect.stoppedAtReset {i : Instr} {s t : State} (effect : Effect s i t) (stopped : StoppedAtReset s) :
    StoppedAtReset t := by
  cases effect with
  | ctrInit => exact nofun
  | ctrSetcmp running | wkSched running | ctrTestovf running | tick running =>
    exact fun h => absurd (running.symm.trans h) (by decide)
  | evReset => exact fun _ => ⟨rfl, rfl, rfl⟩
  | _ => exact stopped

/-! ## The invariant -/

theorem inv_powerUp (c : Config) (b : Bool) (l : Vector Bool 32) : Inv (State.powerUp c b l) where
  counterInRange := ⟨Nat.zero_le _, Nat.zero_le _⟩
  stoppedAtReset := fun _ => ⟨rfl, rfl, rfl⟩
  poolOk := poolOk_powerUp c b l
  pinsOk := fun p => pin_powerUp c b l p ▸ pinOk_unconfigured

/-- Settles O49: `State.reset` is one of the power-up states. -/
theorem powerUpMeetsTheInvariant : Obligations.PowerUpMeetsTheInvariant :=
  ⟨inv_powerUp _ _ _, inv_powerUp⟩

theorem Effect.inv {i : Instr} {s t : State} (effect : Effect s i t) (inv : Inv s) : Inv t where
  counterInRange := effect.counterInRange inv.counterInRange
  stoppedAtReset := effect.stoppedAtReset inv.stoppedAtReset
  poolOk := effect.poolOk inv.poolOk
  pinsOk := effect.pinsOk inv.pinsOk

/-- The invariant speaks neither of the stimuli still waiting nor of the words produced (log 4, log 8). -/
theorem inv_with_streams {s : State} (inv : Inv s) (input : List Stimulus) (out : List Output) :
    Inv { s with input := input, out := out } :=
  ⟨inv.counterInRange, inv.stoppedAtReset, inv.poolOk, inv.pinsOk⟩

/-- Settles O50: a step consumes a stimulus, and then is one of the effects or the answer to an illegal command. -/
theorem everyStepKeepsTheBlockWellFormed : Obligations.EveryStepKeepsTheBlockWellFormed := by
  intro s t inv h
  obtain ⟨x, rest, -, ⟨i, -, he⟩ | ⟨why, -, rfl⟩⟩ := step_cases h
  · exact (exec_effect he).inv (inv_with_streams inv rest s.out)
  · exact inv_with_streams inv rest _

/-! ## Priorities are read by no rule (R20, R163) -/

/-- What a step answers, with the priorities of the next state forgotten. -/
def forgetOutcome : Host.Outcome State Fault Refusal → Host.Outcome State Fault Refusal
  | .next s => .next (forgetPriorities s)
  | .fault r => .fault r
  | .refused r => .refused r

@[simp] theorem forgetOutcome_next (s : State) : forgetOutcome (.next s) = .next (forgetPriorities s) := rfl

@[simp] theorem forgetOutcome_refused (r : Refusal) : forgetOutcome (.refused r) = .refused r := rfl

theorem forgetOutcome_eq_next {o : Host.Outcome State Fault Refusal} {t : State} :
    forgetOutcome o = .next t ↔ ∃ u, o = .next u ∧ forgetPriorities u = t := by
  cases o <;> simp [forgetOutcome]

theorem forgetOutcome_eq_refused {o : Host.Outcome State Fault Refusal} {r : Refusal} :
    forgetOutcome o = .refused r ↔ o = .refused r := by
  cases o <;> simp [forgetOutcome]

@[simp] theorem forget_forget (s : State) : forgetPriorities (forgetPriorities s) = forgetPriorities s := by
  simp [forgetPriorities, Vector.map_map, Function.comp_def]

@[simp] theorem forgetOutcome_forgetOutcome (o : Host.Outcome State Fault Refusal) :
    forgetOutcome (forgetOutcome o) = forgetOutcome o := by
  cases o <;> simp [forgetOutcome]

@[simp] theorem pin_forget (s : State) (p : Pin) : pin (forgetPriorities s) p = { pin s p with prio := 0 } := by
  simp [pin, forgetPriorities, Vector.get_eq_getElem]

@[simp] theorem forget_ite (c : Prop) [Decidable c] (a b : State) :
    forgetPriorities (if c then a else b) = if c then forgetPriorities a else forgetPriorities b :=
  apply_ite ..

@[simp] theorem forget_setPin (s : State) (p : Pin) (r : PinRecord) :
    forgetPriorities (setPin s p r) = setPin (forgetPriorities s) p { r with prio := 0 } := by
  simp [forgetPriorities, setPin, Vector.map_set]

@[simp] theorem forget_respond (st : Status) (d : BitVec 32) (s : State) :
    forgetPriorities (respond st d s) = respond st d (forgetPriorities s) := rfl

@[simp] theorem forget_raise (e : Status) (s : State) :
    forgetPriorities (raise e s) = raise e (forgetPriorities s) := rfl

@[simp] theorem forget_setHandler (s : State) (p : Pin) (c : Token) :
    forgetPriorities (setHandler s p c) = setHandler (forgetPriorities s) p c := rfl

@[simp] theorem forget_answerIllegal (s : State) :
    forgetPriorities (answerIllegal s) = answerIllegal (forgetPriorities s) := rfl

@[simp] theorem level_forget (s : State) (p : Pin) : level (forgetPriorities s) p = level s p := rfl

@[simp] theorem isInput_forget (s : State) (p : Pin) : isInput (forgetPriorities s) p = isInput s p := by
  simp [isInput]

@[simp] theorem isOutput_forget (s : State) (p : Pin) : isOutput (forgetPriorities s) p = isOutput s p := by
  simp [isOutput]

@[simp] theorem envDelivers_forget (s : State) (p : Pin) (e : Edge) :
    envDelivers (forgetPriorities s) p e = envDelivers s p e := by
  simp only [envDelivers, pin_forget]
  rfl

theorem advanceCounter_forget (s : State) :
    advanceCounter (forgetPriorities s) = forgetPriorities (advanceCounter s) := by
  unfold advanceCounter
  rw [forget_ite]
  rfl

theorem compareMatch_forget (s : State) : compareMatch (forgetPriorities s) = forgetPriorities (compareMatch s) := by
  unfold compareMatch
  rw [forget_ite]
  rfl

/-- `TMR_CREATE` looks for a free slot, whatever the pins hold. -/
theorem execTmrCreate_forget (cb : Token) (s : State) :
    execTmrCreate cb (forgetPriorities s) = forgetOutcome (execTmrCreate cb s) := by
  have h : freeSlot (forgetPriorities s) = freeSlot s := rfl
  unfold execTmrCreate
  rw [h]
  cases freeSlot s <;> rfl

theorem execEvTick_forget (s : State) : execEvTick (forgetPriorities s) = forgetOutcome (execEvTick s) := by
  simp only [execEvTick, advanceCounter_forget, compareMatch_forget, forgetOutcome_next, forget_ite]
  rfl

theorem execEvReset_forget (s : State) : execEvReset (forgetPriorities s) = forgetOutcome (execEvReset s) := by
  simp [execEvReset, resetBlock, forgetPriorities, PinRecord.unconfigured]

theorem execEvPinirq_forget (p : Pin) (e : Edge) (s : State) :
    execEvPinirq p e (forgetPriorities s) = forgetOutcome (execEvPinirq p e s) := by
  simp only [execEvPinirq, envDelivers_forget, apply_ite forgetOutcome]
  rfl

/-- The teardown asks whether the pin was armed, not with which priority (R127). -/
theorem teardownSensing_forget (r : PinRecord) :
    teardownSensing { r with prio := 0#3 } = { teardownSensing r with prio := 0#3 } := by
  unfold teardownSensing previouslyArmed
  split <;> rfl

/-- A command or event that writes no pin record does the same whatever the priorities. -/
theorem exec_forget_of_no_pin {i : Instr} (noPin : commandPin i = none) (s : State) :
    exec i (forgetPriorities s) = forgetOutcome (exec i s) := by
  cases i with
  | gpCfg | gpArm | gpDisarm | gpWrite | gpToggle | gpRead | gpDeinit => cases noPin
  | tmrCreate cb => exact execTmrCreate_forget cb s
  | evTick => exact execEvTick_forget s
  | evPinirq p e => exact execEvPinirq_forget p e s
  | evReset => exact execEvReset_forget s
  | ctrTestovf => simp only [exec, execCtrTestovf, forgetOutcome_next, forget_respond, forget_ite]; rfl
  | ctrInit | ctrSetcmp | wkSched | tmrSetto | tmrStart | tmrStop =>
    simp only [exec, execCtrInit, execCtrSetcmp, execWkSched, execTmrSetto, execTmrStart, execTmrStop,
      forgetOutcome_next, forget_ite]
    rfl
  | ctrRead | ctrMax | clkGet | clkUpdate | wkSetcb | tmrNow | tmrElapsed | evTmrtick | evPinlvl | evHwok => rfl

/-- A pin command writes the same record whatever the stored priority, that priority itself aside. -/
theorem exec_forget_of_pin {i : Instr} {p : Pin} (onPin : commandPin i = some p) (s : State) :
    forgetOutcome (exec i (forgetPriorities s)) = forgetOutcome (exec i s) := by
  cases i with
  | gpCfg => simp [exec, execGpCfg]
  | gpArm => simp [exec, execGpArm, teardownSensing_forget]
  | gpDisarm => simp [exec, execGpDisarm]
  | gpWrite => simp [exec, execGpWrite]
  | gpToggle => simp [exec, execGpToggle]
  | gpRead => simp [exec, execGpRead]
  | gpDeinit => simp [exec, execGpDeinit]
  | _ => cases onPin

theorem exec_forget (i : Instr) (s : State) :
    forgetOutcome (exec i (forgetPriorities s)) = forgetOutcome (exec i s) := by
  cases hp : commandPin i with
  | none => rw [exec_forget_of_no_pin hp, forgetOutcome_forgetOutcome]
  | some p => exact exec_forget_of_pin hp s

theorem stimulate_forget (x : Stimulus) (s : State) :
    forgetOutcome (stimulate x (forgetPriorities s)) = forgetOutcome (stimulate x s) := by
  rw [stimulate_eq, stimulate_eq]
  cases decode x.port x.word with
  | stimulus i => exact exec_forget i s
  | illegal why => simp
  | refused why => rfl

/-- With no stimulus there is no step (R9; log 5). -/
theorem step_of_nil {s : State} (h : s.input = []) : step s = .refused .noStimulus := by
  simp [step, nextStimulus, h]

/-- A step presents the first stimulus to the block with that stimulus consumed (R11, R45). -/
theorem step_of_cons {s : State} {x : Stimulus} {rest : List Stimulus} (h : s.input = x :: rest) :
    step s = stimulate x { s with input := rest } := by
  obtain ⟨⟩ := s
  cases h
  rfl

theorem step_forget (s : State) : forgetOutcome (step (forgetPriorities s)) = forgetOutcome (step s) := by
  cases hi : s.input with
  | nil => rw [step_of_nil hi, step_of_nil (s := forgetPriorities s) hi]
  | cons x rest =>
    rw [step_of_cons hi, step_of_cons (s := forgetPriorities s) hi]
    exact stimulate_forget x { s with input := rest }

/-- Settles O45: what a step answers, priorities aside, is a function of the state, priorities aside. -/
theorem prioritiesAreReadByNoRule : Obligations.PrioritiesAreReadByNoRule := by
  intro s₁ s₂ same
  have e : forgetOutcome (step s₂) = forgetOutcome (step s₁) := by
    rw [← step_forget s₂, ← same, step_forget]
  refine ⟨fun t₁ h => ?_, fun r h => ?_⟩
  · rw [h] at e
    obtain ⟨t₂, h₂, ht⟩ := forgetOutcome_eq_next.1 e
    exact ⟨t₂, h₂, ht.symm⟩
  · rw [h] at e
    exact forgetOutcome_eq_refused.1 e

end Sys2Proof.Proofs

/-! SUPPORT. The memory family: the bytes of a word and of a trace (R42, R43), and the queue of stimuli, which no instruction
reads or writes (R45; log 4), so that a run is the machine's run on a queue. -/

namespace Sys2Proof.Proofs

open Sys2Proof.Machine

/-! ## A step takes the next stimulus -/

/-- Settles O3: the first stimulus in the queue is consumed, and it is a legal word. -/
theorem stepRunsTheDecodedInstruction : Obligations.StepRunsTheDecodedInstruction := by
  intro s x rest i waiting legal
  rw [step_of_cons waiting, stimulate_eq, legal]

/-! ## Bytes of words and traces (R42, R43) -/

theorem length_wordBytes (w : Word) : (wordBytes w).length = 8 := rfl

theorem wordBytes_getElem? (w : Word) {k : Nat} (hk : k < 8) :
    (wordBytes w)[k]? = some (BitVec.setWidth 8 (w >>> (8 * k))) := by
  interval_cases k <;> rfl

/-- The bytes from 7 down to 0 are the word again. -/
theorem append_bytes (w : Word) :
    w.extractLsb' 56 8 ++ w.extractLsb' 48 8 ++ w.extractLsb' 40 8 ++ w.extractLsb' 32 8 ++ w.extractLsb' 24 8 ++
      w.extractLsb' 16 8 ++ w.extractLsb' 8 8 ++ w.extractLsb' 0 8 = w := by
  simp only [BitVec.extractLsb'_append_extractLsb'_eq_extractLsb']
  exact BitVec.extractLsb'_eq_self

theorem traceWords_wordBytes_append (w : Word) (bytes : List (BitVec 8)) :
    traceWords (wordBytes w ++ bytes) = (traceWords bytes).map (w :: ·) := by
  simp only [wordBytes, List.cons_append, List.nil_append, traceWords, append_bytes]

theorem traceWords_traceBytes (ws : List Word) : traceWords (traceBytes ws) = some ws := by
  induction ws with
  | nil => rfl
  | cons w ws ih => rw [traceBytes, traceWords_wordBytes_append, ih, Option.map_some]

theorem length_traceBytes (ws : List Word) : (traceBytes ws).length = 8 * ws.length := by
  induction ws with
  | nil => rfl
  | cons w ws ih =>
    rw [traceBytes, List.length_append, length_wordBytes, ih, List.length_cons]
    omega

/-- The bytes of word `k` come after those of `k` words. -/
theorem drop_traceBytes (ws : List Word) (k : Nat) : (traceBytes ws).drop (8 * k) = traceBytes (ws.drop k) := by
  induction ws generalizing k with
  | nil => simp [traceBytes]
  | cons w ws ih =>
    cases k with
    | zero => rfl
    | succ k =>
      rw [List.drop_succ_cons, ← ih, traceBytes, Nat.mul_succ, Nat.add_comm, ← List.drop_drop,
        List.drop_left' (length_wordBytes w)]

theorem extract_traceBytes {ws : List Word} {k : Nat} (h : k < ws.length) :
    (traceBytes ws).extract (8 * k) (8 * k + 8) = wordBytes ws[k] := by
  rw [List.extract_eq_take_drop, drop_traceBytes, List.drop_eq_getElem_cons h, traceBytes, Nat.add_sub_cancel_left,
    List.take_left' (length_wordBytes _)]

/-- Settles O48: the bytes of a word one by one, then a trace word by word. -/
theorem traceReadsBackTheWords : Obligations.TraceReadsBackTheWords :=
  ⟨fun w _ hk => wordBytes_getElem? w hk,
    fun ws => ⟨traceWords_traceBytes ws, length_traceBytes ws, fun _ h => extract_traceBytes h⟩⟩

/-! ## The queue is read and written by no instruction -/

/-- The state with other stimuli waiting (log 4). -/
def requeue (queue : List Stimulus) (s : State) : State := { s with input := queue }

/-- What a step answers, with other stimuli waiting in the next state. -/
def requeueOutcome (queue : List Stimulus) : Host.Outcome State Fault Refusal → Host.Outcome State Fault Refusal
  | .next s => .next (requeue queue s)
  | .fault r => .fault r
  | .refused r => .refused r

variable (queue : List Stimulus)

theorem requeue_input (s : State) : requeue s.input s = s := rfl

theorem respond_requeue (st : Status) (d : BitVec 32) (s : State) :
    respond st d (requeue queue s) = requeue queue (respond st d s) := rfl

theorem next_requeue {s t : State} (h : t = requeue queue s) : .next t = requeueOutcome queue (.next s) := by
  rw [h]
  rfl

/-- Two branches that ignore the queue make a choice that ignores it. -/
theorem requeue_ite {c : Prop} [Decidable c] {s t s' t' : State} (pos : s' = requeue queue s)
    (neg : t' = requeue queue t) : (if c then s' else t') = requeue queue (if c then s else t) := by
  rw [pos, neg, apply_ite (requeue queue)]

theorem advanceCounter_requeue (s : State) : advanceCounter (requeue queue s) = requeue queue (advanceCounter s) :=
  requeue_ite queue rfl rfl

theorem compareMatch_requeue (s : State) : compareMatch (requeue queue s) = requeue queue (compareMatch s) :=
  requeue_ite queue rfl rfl

theorem execTmrCreate_requeue (cb : Token) (s : State) :
    execTmrCreate cb (requeue queue s) = requeueOutcome queue (execTmrCreate cb s) := by
  have h : freeSlot (requeue queue s) = freeSlot s := rfl
  unfold execTmrCreate
  rw [h]
  cases freeSlot s <;> rfl

theorem execEvPinirq_requeue (p : Pin) (e : Edge) (s : State) :
    execEvPinirq p e (requeue queue s) = requeueOutcome queue (execEvPinirq p e s) := by
  simp only [execEvPinirq, apply_ite (requeueOutcome queue)]
  rfl

theorem execEvTick_requeue (s : State) : execEvTick (requeue queue s) = requeueOutcome queue (execEvTick s) := by
  rw [execEvTick, advanceCounter_requeue, compareMatch_requeue]
  exact next_requeue queue (requeue_ite queue rfl rfl)

/-- An instruction does the same whatever stimuli wait, and leaves them waiting. -/
theorem exec_requeue (i : Instr) (s : State) : exec i (requeue queue s) = requeueOutcome queue (exec i s) := by
  cases i with
  | tmrCreate cb => exact execTmrCreate_requeue queue cb s
  | evTick => exact execEvTick_requeue queue s
  | evPinirq p e => exact execEvPinirq_requeue queue p e s
  | ctrTestovf =>
    refine next_requeue queue ?_
    rw [← respond_requeue]
    exact congrArg (respond .ok 0) (requeue_ite queue rfl rfl)
  | ctrSetcmp | tmrSetto | tmrStop | gpCfg | gpWrite | gpToggle | gpRead | gpDeinit =>
    exact next_requeue queue (requeue_ite queue rfl rfl)
  | ctrInit | wkSched | tmrStart | gpArm =>
    exact next_requeue queue (requeue_ite queue rfl (requeue_ite queue rfl rfl))
  | ctrRead | ctrMax | clkGet | clkUpdate | wkSetcb | tmrNow | tmrElapsed | gpDisarm | evTmrtick | evPinlvl | evHwok |
      evReset => rfl

theorem stimulate_requeue (x : Stimulus) (s : State) :
    stimulate x (requeue queue s) = requeueOutcome queue (stimulate x s) := by
  rw [stimulate_eq, stimulate_eq]
  cases decode x.port x.word with
  | stimulus i => exact exec_requeue queue i s
  | illegal why => rfl
  | refused why => rfl

/-- The queue stays what it was: with it for `queue`, `stimulate_requeue` is about the state itself. -/
theorem stimulate_input {x : Stimulus} {s t : State} (h : stimulate x s = .next t) : t.input = s.input := by
  have e : t = requeue s.input t :=
    Host.Outcome.next.inj (h.symm.trans ((stimulate_requeue s.input x s).trans (congrArg (requeueOutcome s.input) h)))
  rw [e]
  rfl

/-! ## A run is the machine's run on a queue -/

/-- A stimulus that waits first is the one a step presents (R45). -/
theorem step_requeue_cons {x : Stimulus} {s t : State} (h : stimulate x s = .next t) :
    step (requeue (x :: queue) s) = .next (requeue queue t) := by
  rw [step_of_cons rfl]
  exact (stimulate_requeue queue x s).trans (congrArg (requeueOutcome queue) h)

/-- By induction on the number of steps: the first takes the first stimulus, and the rest of the run starts one state later. -/
theorem run_requeue (n : Nat) (xs : Nat → Stimulus) (states : Nat → State)
    (next : ∀ k < n, stimulate (xs k) (states k) = .next (states (k + 1))) :
    Host.Core.run Sys2Proof.core n (requeue ((List.range n).map xs ++ queue) (states 0)) =
      .next (requeue queue (states n)) := by
  induction n generalizing xs states with
  | zero => rfl
  | succ n ih =>
    rw [List.range_succ_eq_map, List.map_cons, List.map_map]
    refine run_succ.2 ⟨_, step_requeue_cons _ (next 0 n.succ_pos), ?_⟩
    exact ih (xs ∘ Nat.succ) (fun k => states (k + 1)) fun k hk => next (k + 1) (Nat.succ_lt_succ hk)

theorem isRunFrom_input {s : State} {xs : Nat → Stimulus} {states : Nat → State} {extent : Extent}
    (h : IsRunFrom s xs states extent) {n : Nat} (steps : ∀ k < n, extent.hasStep k) : (states n).input = s.input := by
  induction n with
  | zero => rw [h.start]
  | succ n ih =>
    rw [stimulate_input (h.next n (steps n n.lt_succ_self)), ih fun k hk => steps k (Nat.lt_succ_of_lt hk)]

/-- Settles O57: the run's own states, with what waited before still waiting behind the run's stimuli. -/
theorem runsAreRunsOfTheMachine : Obligations.RunsAreRunsOfTheMachine := by
  intro n s xs states extent h steps
  have e := run_requeue (states n).input n xs states fun k hk => h.next k (steps k hk)
  rw [requeue_input, h.start, isRunFrom_input h steps] at e
  exact e

end Sys2Proof.Proofs

/-! SUPPORT. The encoding family: the decoder inverts the encoder and the encoder the decoder (R56 to R58, R69), which words are
no stimulus (R61, R62), and the pseudo-operation `GP_REARM` (R68). -/

namespace Sys2Proof.Proofs

open Sys2Proof.Machine Sys2Proof.Safety

/-! ## What the decoder answers (R69) -/

/-- A word decodes iff a row of the port has its opcode, its reserved bits are 0, and the row's constraint holds. -/
theorem decodeWord_eq_ok_iff {p : Port} {w : Word} {i : Instr} :
    decodeWord p w = .ok i ↔
      ∃ o, Op.ofCode p (fieldOp w) = some o ∧ w &&& o.format.mask = o.matchWord ∧ o.assemble w = .ok i := by
  unfold decodeWord
  cases Op.ofCode p (fieldOp w) with
  | none => simp
  | some o => by_cases hm : w &&& o.format.mask = o.matchWord <;> simp [hm]

theorem decode_eq_stimulus_iff {p : Port} {w : Word} {i : Instr} :
    decode p w = .stimulus i ↔ decodeWord p w = .ok i := by
  unfold decode
  cases decodeWord p w with
  | ok j => simp
  | error why => cases p <;> simp

theorem decode_command_eq_illegal_iff {w : Word} {why : Reject} :
    decode .command w = .illegal why ↔ decodeWord .command w = .error why := by
  unfold decode
  cases decodeWord .command w <;> simp

theorem decode_event_eq_refused_iff {w : Word} {why : Reject} :
    decode .event w = .refused why ↔ decodeWord .event w = .error why := by
  unfold decode
  cases decodeWord .event w <;> simp

/-! ## The decoder inverts the encoder -/

/-- Every arm of the encoder lays out the opcode of its row. -/
theorem fieldOp_encode (i : Instr) : fieldOp (encode i) = i.op.code := by
  cases i <;> exact fieldOp_layout ..

/-- Every arm of the encoder leaves the reserved bits of its format 0. -/
theorem encode_and_mask : ∀ i : Instr, encode i &&& i.op.format.mask = i.op.matchWord
  | .ctrInit => Laws.ReservedBits.ctrInit
  | .ctrRead => Laws.ReservedBits.ctrRead
  | .ctrMax => Laws.ReservedBits.ctrMax
  | .ctrSetcmp d e => Laws.ReservedBits.ctrSetcmp d e
  | .ctrTestovf => Laws.ReservedBits.ctrTestovf
  | .clkGet => Laws.ReservedBits.clkGet
  | .clkUpdate d => Laws.ReservedBits.clkUpdate d
  | .wkSched d => Laws.ReservedBits.wkSched d
  | .wkSetcb d => Laws.ReservedBits.wkSetcb d
  | .tmrCreate d => Laws.ReservedBits.tmrCreate d
  | .tmrSetto h d => Laws.ReservedBits.tmrSetto h d
  | .tmrStart h => Laws.ReservedBits.tmrStart h
  | .tmrStop h => Laws.ReservedBits.tmrStop h
  | .tmrNow => Laws.ReservedBits.tmrNow
  | .tmrElapsed d => Laws.ReservedBits.tmrElapsed d
  | .gpCfg p m u v => Laws.ReservedBits.gpCfg p m u v
  | .gpArm p e r d => Laws.ReservedBits.gpArm p e r d
  | .gpDisarm p => Laws.ReservedBits.gpDisarm p
  | .gpWrite p v => Laws.ReservedBits.gpWrite p v
  | .gpToggle p => Laws.ReservedBits.gpToggle p
  | .gpRead p => Laws.ReservedBits.gpRead p
  | .gpDeinit p => Laws.ReservedBits.gpDeinit p
  | .evTick => Laws.ReservedBits.evTick
  | .evTmrtick => Laws.ReservedBits.evTmrtick
  | .evPinirq p e => Laws.ReservedBits.evPinirq p e
  | .evPinlvl p b => Laws.ReservedBits.evPinlvl p b
  | .evHwok b => Laws.ReservedBits.evHwok b
  | .evReset => Laws.ReservedBits.evReset

section PinFields

variable (op : BitVec 8) (prio : BitVec 3) (edge : BitVec 2) (flag : Bool) (pull : BitVec 2) (mode : Bool) (p : Pin)
  (data : BitVec 32)

theorem fieldPin_layout : fieldPin (layout op prio edge flag (pinBits pull mode p) data) = p := by
  rw [fieldPin_eq, fieldIdx_layout, pinBits_pin]

theorem fieldMode_layout : fieldMode (layout op prio edge flag (pinBits pull mode p) data) = PinMode.ofCode mode := by
  rw [fieldMode_eq, fieldIdx_layout, pinBits_mode]

theorem fieldPull_layout : fieldPull (layout op prio edge flag (pinBits pull mode p) data) = Pull.ofCode pull := by
  rw [fieldPull_eq, fieldIdx_layout, pinBits_pull]

end PinFields

/-- The fields of a well-formed instruction's word are its operands, and its row's constraint holds (R56, R61, R62). -/
theorem assemble_encode {i : Instr} (legal : i.wellFormed = true) : i.op.assemble (encode i) = .ok i := by
  cases i with
  | gpCfg p mode pull v =>
    simp only [Instr.op, encode, Op.assemble, fieldPull_layout, fieldPin_layout, fieldMode_layout, fieldFlag_layout,
      Pull.ofCode_code, PinMode.ofCode_code]
  | gpArm p e prio cb =>
    have edge : e ≠ .none := by simpa [Instr.wellFormed] using legal
    simp only [Instr.op, encode, Op.assemble, fieldEdge_layout, fieldPin_layout, fieldPrio_layout, fieldData_layout,
      Edge.ofCode_code, if_neg edge]
  | evPinirq p e =>
    have edge : e = .rising ∨ e = .falling := by simpa [Instr.wellFormed] using legal
    simp only [Instr.op, encode, Op.assemble, fieldEdge_layout, fieldPin_layout, Edge.ofCode_code, if_pos edge]
  | _ =>
    simp only [Instr.op, encode, Op.assemble, fieldData_layout, fieldFlag_layout, fieldIdx_layout, fieldPin_layout]

/-- Settles O7: the row is found by its opcode, the reserved bits are 0, and the fields are the operands. -/
theorem decodeOfEncodeIsTheInstruction : Obligations.DecodeOfEncodeIsTheInstruction := by
  intro i legal
  refine decode_eq_stimulus_iff.2 (decodeWord_eq_ok_iff.2 ⟨i.op, ?_, encode_and_mask i, assemble_encode legal⟩)
  rw [fieldOp_encode]
  exact Op.ofCode_code i.op

/-! ## The encoder inverts the decoder

The mask of a format is taken apart along the layout of R56. A word that matches its row is the match value and, outside the
mask, its own bits; and that is what the encoder writes back of the fields that were read. -/

/-- The part of a format's mask (R57) over the `prio` field; `edgeMask` to `dataMask` are the parts over the other fields. -/
@[simp] def prioMask : Format → BitVec 3
  | .PA => 0
  | _ => 7

@[simp] def edgeMask : Format → BitVec 2
  | .PA | .EP => 0
  | _ => 3

@[simp] def flagMask : Format → Bool
  | .C | .PC | .PW | .F => false
  | _ => true

@[simp] def lowMask : Format → BitVec 8
  | .H | .HD | .PC => 0
  | .P | .PW | .PA | .EP => 0xE0
  | _ => 0xFF

@[simp] def dataMask : Format → BitVec 32
  | .D | .C | .HD | .PA => 0
  | _ => 0xFFFFFFFF

/-- A mask tests the opcode and the two gaps between the fields, and of each field what the format leaves out (R57). -/
theorem mask_eq_append (f : Format) :
    f.mask = 0xFF#8 ++ 0x1F#5 ++ prioMask f ++ 0x1F#5 ++ edgeMask f ++ BitVec.ofBool (flagMask f) ++ lowMask f ++
      dataMask f := by
  cases f <;> decide

/-- The match value and the bits of a word outside a mask, field by field. -/
theorem matchWord_or_unmasked (o : Op) (w : Word) :
    o.matchWord ||| (w &&& ~~~o.format.mask) =
      layout o.code (fieldPrio w &&& ~~~prioMask o.format) (w.extractLsb' 41 2 &&& ~~~edgeMask o.format)
        (fieldFlag w && !flagMask o.format) (fieldIdx w &&& ~~~lowMask o.format)
        (fieldData w &&& ~~~dataMask o.format) := by
  rw [Laws.matchWord_eq, mask_eq_append]
  apply BitVec.eq_of_getLsbD_eq
  intro i hi
  simp only [layout, fieldPrio, fieldFlag, fieldIdx, fieldData, BitVec.getLsbD_and, BitVec.getLsbD_or,
    BitVec.getLsbD_not, BitVec.getLsbD_append, BitVec.getLsbD_extractLsb']
  interval_cases i <;> simp

/-- The three fields of R56 in bits 39:32. -/
theorem fieldIdx_eq_pinBits (w : Word) :
    fieldIdx w = pinBits (w.extractLsb' 38 2) (w.getLsbD 37) (fieldPin w) := by
  apply BitVec.eq_of_getLsbD_eq
  intro i hi
  simp only [pinBits, fieldIdx, fieldPin, BitVec.getLsbD_append, BitVec.getLsbD_extractLsb']
  interval_cases i <;> simp

/-- Of bits 39:32 the formats with a pin alone keep the pin. -/
theorem fieldIdx_and_pin (w : Word) : fieldIdx w &&& 0x1F#8 = pinBits 0 false (fieldPin w) := by
  rw [fieldIdx_eq_pinBits]
  generalize w.extractLsb' 38 2 = pull, w.getLsbD 37 = mode, fieldPin w = p
  revert pull mode p
  decide

/-! The rows whose operands are constrained (R61 (c) and (d), R62). -/

theorem assemble_gpCfg_eq_ok_iff {w : Word} {i : Instr} :
    Op.gpCfg.assemble w = .ok i ↔
      ∃ pull, fieldPull w = some pull ∧ i = .gpCfg (fieldPin w) (fieldMode w) pull (fieldFlag w) := by
  simp only [Op.assemble]
  cases fieldPull w <;> simp [eq_comm]

theorem assemble_gpArm_eq_ok_iff {w : Word} {i : Instr} :
    Op.gpArm.assemble w = .ok i ↔
      fieldEdge w ≠ .none ∧ i = .gpArm (fieldPin w) (fieldEdge w) (fieldPrio w) (fieldData w) := by
  by_cases edge : fieldEdge w = .none <;> simp [Op.assemble, edge, eq_comm]

theorem assemble_evPinirq_eq_ok_iff {w : Word} {i : Instr} :
    Op.evPinirq.assemble w = .ok i ↔
      (fieldEdge w = .rising ∨ fieldEdge w = .falling) ∧ i = .evPinirq (fieldPin w) (fieldEdge w) := by
  by_cases edge : fieldEdge w = .rising ∨ fieldEdge w = .falling <;> simp [Op.assemble, edge, eq_comm (a := i)]

/-- A mask with no bit out masks nothing. -/
theorem and_of_ones {n : Nat} (x : BitVec n) {m : BitVec n} (ones : m = BitVec.allOnes n) : x &&& m = x := by
  rw [ones, BitVec.and_allOnes]

/-- A row assembles an instruction of its own, and a well-formed one. -/
theorem op_of_assemble {o : Op} {w : Word} {i : Instr} (h : o.assemble w = .ok i) :
    i.op = o ∧ i.wellFormed = true := by
  cases o with
  | gpCfg =>
    obtain ⟨pull, -, rfl⟩ := assemble_gpCfg_eq_ok_iff.1 h
    exact ⟨rfl, rfl⟩
  | gpArm =>
    obtain ⟨edge, rfl⟩ := assemble_gpArm_eq_ok_iff.1 h
    exact ⟨rfl, by simpa [Instr.wellFormed] using edge⟩
  | evPinirq =>
    obtain ⟨edge, rfl⟩ := assemble_evPinirq_eq_ok_iff.1 h
    exact ⟨rfl, by simpa [Instr.wellFormed] using edge⟩
  | _ => cases h; exact ⟨rfl, rfl⟩

/-- The encoder puts each field back where the row read it, beside the match value. -/
theorem encode_of_assemble {o : Op} {w : Word} {i : Instr} (h : o.assemble w = .ok i) :
    encode i = o.matchWord ||| (w &&& ~~~o.format.mask) := by
  rw [matchWord_or_unmasked]
  cases o with
  | gpCfg =>
    obtain ⟨pull, hp, rfl⟩ := assemble_gpCfg_eq_ok_iff.1 h
    simp [encode, Op.code, Op.format, Pull.code_of_ofCode hp, fieldMode, fieldIdx_eq_pinBits, and_of_ones]
  | gpArm =>
    obtain ⟨-, rfl⟩ := assemble_gpArm_eq_ok_iff.1 h
    simp [encode, Op.code, Op.format, fieldEdge, fieldIdx_and_pin, and_of_ones]
  | evPinirq =>
    obtain ⟨-, rfl⟩ := assemble_evPinirq_eq_ok_iff.1 h
    simp [encode, Op.code, Op.format, fieldEdge, fieldIdx_and_pin, and_of_ones]
  | _ =>
    cases h
    simp [encode, Op.code, Op.format, fieldIdx_and_pin, and_of_ones]

/-- Settles O8: a decoded word is the match value and its bits outside the mask, and so is the word of what it decodes to. -/
theorem encodeOfDecodeIsTheWord : Obligations.EncodeOfDecodeIsTheWord := by
  intro p w i h
  obtain ⟨o, row, matched, fields⟩ := decodeWord_eq_ok_iff.1 (decode_eq_stimulus_iff.1 h)
  obtain ⟨rfl, legal⟩ := op_of_assemble fields
  refine ⟨?_, legal, (Op.of_ofCode row).2⟩
  rw [encode_of_assemble fields, ← matched, ← BitVec.and_or_distrib_left]
  exact and_of_ones w (by simp)

/-! ## Which words are rejected (R61, R62) -/

/-- Two fields that zero-extend to the same word are the same (R56). -/
theorem setWidth_word_inj {n : Nat} (le : n ≤ 64) {a c : BitVec n} :
    BitVec.setWidth 64 a = BitVec.setWidth 64 c ↔ a = c :=
  ⟨fun h => by simpa [BitVec.setWidth_setWidth_of_le, le] using congrArg (BitVec.setWidth n) h, congrArg _⟩

/-- The bits above a shift are the field there: bits 63:56 (R55). -/
theorem shiftRight_eq_iff_fieldOp (w : Word) (c : BitVec 8) : w >>> 56 = BitVec.setWidth 64 c ↔ fieldOp w = c := by
  have field : w >>> 56 = BitVec.setWidth 64 (fieldOp w) := by
    apply BitVec.eq_of_getLsbD_eq
    intro i hi
    simp only [fieldOp, BitVec.getLsbD_ushiftRight, BitVec.getLsbD_setWidth, BitVec.getLsbD_extractLsb']
    interval_cases i <;> simp
  rw [field, setWidth_word_inj (by decide)]

/-- Two bits masked out of a shifted word are the two-bit field there. -/
theorem shiftRight_and_three_eq_iff (w : Word) (k : Nat) (c : BitVec 2) :
    (w >>> k) &&& 3 = BitVec.setWidth 64 c ↔ w.extractLsb' k 2 = c := by
  have field : (w >>> k) &&& 3 = BitVec.setWidth 64 (w.extractLsb' k 2) := by
    apply BitVec.eq_of_getLsbD_eq
    intro i hi
    simp only [BitVec.getLsbD_and, BitVec.getLsbD_ushiftRight, BitVec.getLsbD_setWidth, BitVec.getLsbD_extractLsb']
    interval_cases i <;> simp
  rw [field, setWidth_word_inj (by decide)]

theorem matchWord_eq_shiftLeft (o : Op) : o.matchWord = BitVec.setWidth 64 o.code <<< 56 := by
  cases o <;> decide

/-- The row found under an opcode on a port is the row with both (R58, R69). -/
theorem ofCode_eq_some_iff {p : Port} {c : BitVec 8} {o : Op} : Op.ofCode p c = some o ↔ o.code = c ∧ o.port = p :=
  ⟨Op.of_ofCode, by rintro ⟨rfl, rfl⟩; exact Op.ofCode_code o⟩

theorem ofCode_eq_none_iff {p : Port} {c : BitVec 8} :
    Op.ofCode p c = none ↔ ∀ o : Op, o.port = p → c ≠ o.code := by
  rw [Option.eq_none_iff_forall_ne_some]
  refine forall_congr' fun o => ?_
  rw [Ne, ofCode_eq_some_iff, not_and', eq_comm (a := o.code)]

/-- A word is rejected on a port iff no row of the port has its opcode, or the row has it and a reserved bit is set, or the
row's constraint fails (R61, R62, R69). -/
theorem decodeWord_error_iff (p : Port) (w : Word) :
    (∃ why, decodeWord p w = .error why) ↔
      (∀ o ∈ Op.all, o.port = p → w >>> 56 ≠ BitVec.setWidth 64 o.code) ∨
      (∃ o ∈ Op.all, o.port = p ∧ w >>> 56 = BitVec.setWidth 64 o.code ∧
        w &&& o.format.mask ≠ BitVec.setWidth 64 o.code <<< 56) ∨
      ∃ o : Op, o.port = p ∧ w >>> 56 = BitVec.setWidth 64 o.code ∧ ∃ why, o.assemble w = .error why := by
  simp only [Op.mem_all, true_imp_iff, true_and, shiftRight_eq_iff_fieldOp, ← matchWord_eq_shiftLeft, Ne]
  unfold decodeWord
  cases row : Op.ofCode p (fieldOp w) with
  | none => simpa using .inl (ofCode_eq_none_iff.1 row)
  | some o =>
    obtain ⟨code, port⟩ := ofCode_eq_some_iff.1 row
    have found : ¬∀ o : Op, o.port = p → ¬fieldOp w = o.code := fun absent => absent o port code.symm
    have only : ∀ o' : Op, o'.port = p ∧ fieldOp w = o'.code ↔ o' = o := fun o' => by
      rw [and_comm, eq_comm, ← ofCode_eq_some_iff, row, Option.some.injEq, eq_comm]
    simp only [found, false_or, ← and_assoc (a := _ = p), only, exists_eq_left]
    by_cases matched : w &&& o.format.mask = o.matchWord <;> simp [matched]

theorem pull_ofCode_eq_none_iff (c : BitVec 2) : Pull.ofCode c = none ↔ c = 3 := by
  revert c
  decide

theorem edge_ofCode_eq_none_iff (c : BitVec 2) : Edge.ofCode c = .none ↔ c = 0 := by
  revert c
  decide

theorem edge_ofCode_polarity_iff (c : BitVec 2) :
    Edge.ofCode c = .rising ∨ Edge.ofCode c = .falling ↔ ¬(c = 0 ∨ c = 3) := by
  revert c
  decide

/-- Only three rows have a constraint: the pull code of `GP_CFG`, the edge of `GP_ARM`, the polarity of `EV_PINIRQ`
(R61 (c) and (d), R62). -/
theorem assemble_error_iff (o : Op) (w : Word) :
    (∃ why, o.assemble w = .error why) ↔
      (o = .gpCfg ∧ (w >>> 38) &&& 3 = 3) ∨ (o = .gpArm ∧ (w >>> 41) &&& 3 = 0) ∨
      (o = .evPinirq ∧ ((w >>> 41) &&& 3 = 0 ∨ (w >>> 41) &&& 3 = 3)) := by
  have pull : (w >>> 38) &&& 3 = 3 ↔ fieldPull w = none :=
    (shiftRight_and_three_eq_iff w 38 3).trans (pull_ofCode_eq_none_iff _).symm
  have edge : (w >>> 41) &&& 3 = 0 ↔ fieldEdge w = .none :=
    (shiftRight_and_three_eq_iff w 41 0).trans (edge_ofCode_eq_none_iff _).symm
  have polarity : (w >>> 41) &&& 3 = 0 ∨ (w >>> 41) &&& 3 = 3 ↔ ¬(fieldEdge w = .rising ∨ fieldEdge w = .falling) :=
    (or_congr (shiftRight_and_three_eq_iff w 41 0) (shiftRight_and_three_eq_iff w 41 3)).trans
      (not_iff_not.2 (edge_ofCode_polarity_iff _) |>.trans not_not).symm
  rw [pull, polarity, edge]
  cases o with
  | gpCfg => cases h : fieldPull w <;> simp [Op.assemble, h]
  | gpArm => by_cases h : fieldEdge w = .none <;> simp [Op.assemble, h]
  | evPinirq => by_cases h : fieldEdge w = .rising ∨ fieldEdge w = .falling <;> simp [Op.assemble, h]
  | _ => simp [Op.assemble]

/-- Settles O4: a command is illegal iff its word is rejected, and of the constrained rows two are commands'. -/
theorem illegalCommandWordsAreThoseOfTheRule : Obligations.IllegalCommandWordsAreThoseOfTheRule := by
  refine ⟨fun w => ?_, fun s w rest why waiting illegal => ?_⟩
  · simp only [decode_command_eq_illegal_iff, decodeWord_error_iff, assemble_error_iff]
    refine or_congr_right (or_congr_right ⟨?_, ?_⟩)
    · rintro ⟨o, port, code, ⟨rfl, pull⟩ | ⟨rfl, edge⟩ | ⟨rfl, -⟩⟩
      · exact .inl ⟨code, pull⟩
      · exact .inr ⟨code, edge⟩
      · cases port
    · rintro (⟨code, pull⟩ | ⟨code, edge⟩)
      · exact ⟨.gpCfg, rfl, code, .inl ⟨rfl, pull⟩⟩
      · exact ⟨.gpArm, rfl, code, .inr (.inl ⟨rfl, edge⟩)⟩
  · rw [step_of_cons waiting, stimulate_eq, illegal]
    simp [answerIllegal, raise, respond, responseWord_eIllegal]

/-- Settles O5: an event is refused iff its word is rejected, and of the constrained rows one is an event's. -/
theorem malformedEventsAreRefused : Obligations.MalformedEventsAreRefused := by
  refine ⟨fun w => ?_, fun s w rest why waiting refused => ?_⟩
  · simp only [decode_event_eq_refused_iff, decodeWord_error_iff, assemble_error_iff]
    refine or_congr_right (or_congr_right ⟨?_, ?_⟩)
    · rintro ⟨o, port, code, ⟨rfl, -⟩ | ⟨rfl, -⟩ | ⟨rfl, edge⟩⟩
      · cases port
      · cases port
      · exact ⟨code, edge⟩
    · rintro ⟨code, edge⟩
      exact ⟨.evPinirq, rfl, code, .inr (.inr ⟨rfl, edge⟩)⟩
  · rw [step_of_cons waiting, stimulate_eq, refused]

/-- Settles O6, word by word. -/
theorem listedWordsDecodeAsListed : Obligations.ListedWordsDecodeAsListed := by
  refine ⟨?_, ?_, ?_, ?_, ?_, ?_, ?_, ?_⟩ <;> decide

/-! ## `GP_REARM` (R68) -/

/-- Writing back the record that a pin holds changes nothing. -/
theorem setPin_pin (s : State) (p : Pin) : setPin s p (pin s p) = s := by
  simp [setPin, pin, Vector.get_eq_getElem]

/-- `GP_ARM` sees a disarmed pin as it was: the teardown asks for `irq_mode`, and `evt_en` is written anyway (R127). -/
theorem arm_of_disarmed (r : PinRecord) (e : Edge) (prio : BitVec 3) :
    { teardownSensing { r with evtEn := false } with irqMode := e, prio := prio, evtEn := true } =
      { teardownSensing r with irqMode := e, prio := prio, evtEn := true } := by
  unfold teardownSensing previouslyArmed
  split <;> rfl

/-- A pin that is no input is not enabled, so disarming leaves its record as it is (R20, R21). -/
theorem disarmed_of_not_input {s : State} {p : Pin} (noInput : isInput s p = false) (ok : PinOk (pin s p)) :
    { pin s p with evtEn := false } = pin s p := by
  obtain ⟨enabled, -⟩ := ok
  have off : (pin s p).evtEn = false := by
    by_contra on
    obtain ⟨init, mode, -⟩ := enabled (by simpa using on)
    simp [(isInput_iff s p).2 ⟨init, mode⟩] at noInput
  rw [← off]

/-- The state that `GP_DISARM` leaves (R128). -/
def disarm (s : State) (p : Pin) : State := respond .ok 0 (setPin s p { pin s p with evtEn := false })

theorem execAll_singleton (i : Instr) (s : State) : execAll [i] s = exec i s := by
  rw [execAll]
  cases exec i s <;> rfl

/-- `GP_DISARM` always has a next state, so `GP_REARM` is `GP_ARM` in it (R68, R128). -/
theorem execAll_gpRearm (p : Pin) (e : Edge) (prio : BitVec 3) (cb : Token) (s : State) :
    execAll (gpRearm p e prio cb) s = exec (.gpArm p e prio cb) (disarm s p) := by
  rw [gpRearm, execAll]
  exact execAll_singleton (.gpArm p e prio cb) (disarm s p)

theorem pin_disarm (s : State) (p : Pin) : pin (disarm s p) p = { pin s p with evtEn := false } :=
  (pin_setPin s p p _).trans (if_pos rfl)

theorem isInput_disarm (s : State) (p : Pin) : isInput (disarm s p) p = isInput s p := by
  rw [isInput, pin_disarm, isInput]

theorem exec_gpArm_of_input {p : Pin} {e : Edge} {s : State} (edge : e ≠ .none) (input : isInput s p = true)
    (prio : BitVec 3) (cb : Token) :
    exec (.gpArm p e prio cb) s = .next (respond .ok 0 (setPin (setHandler s p cb) p
      { teardownSensing (pin s p) with irqMode := e, prio := prio, evtEn := true })) := by
  simp [exec, execGpArm, edge, input]

theorem exec_gpArm_of_not_input {p : Pin} {e : Edge} {s : State} (edge : e ≠ .none) (noInput : isInput s p = false)
    (prio : BitVec 3) (cb : Token) : exec (.gpArm p e prio cb) s = .next (raise .eState s) := by
  simp [exec, execGpArm, edge, noInput]

/-- Settles O32: on an input the record that `GP_ARM` writes is the same after disarming, and on another pin disarming writes
nothing. -/
theorem gpRearmEndsAsGpArm : Obligations.GpRearmEndsAsGpArm := by
  intro p e prio cb s t edge arm
  rw [execAll_gpRearm]
  refine ⟨fun input => ?_, fun noInput ok => ?_⟩
  · cases (exec_gpArm_of_input edge input prio cb).symm.trans arm
    rw [exec_gpArm_of_input edge ((isInput_disarm s p).trans input), pin_disarm, arm_of_disarmed]
    simp [disarm, respond, setHandler, setPin, responseWord_ok]
  · cases (exec_gpArm_of_not_input edge noInput prio cb).symm.trans arm
    rw [exec_gpArm_of_not_input edge ((isInput_disarm s p).trans noInput), disarm, disarmed_of_not_input noInput ok,
      setPin_pin]
    simp [raise, respond, responseWord_ok, responseWord_eState]

end Sys2Proof.Proofs

/-! SUPPORT. The counter adapter family: the two shapes an answer takes, as literal words (R63, R150), and the five commands of
R80 to R84. -/

namespace Sys2Proof.Proofs

open Sys2Proof.Machine

/-! ## Answers as literal words (R63, R150) -/

theorem respond_ok (d : BitVec 32) (s : State) :
    respond .ok d s = { s with out := s.out ++ [.response (BitVec.setWidth 64 d)] } := by
  rw [respond, responseWord_ok]

theorem respond_ok_zero (s : State) : respond .ok 0 s = { s with out := s.out ++ [.response 0] } :=
  respond_ok 0 s

theorem raise_eState (s : State) : raise .eState s = { s with out := s.out ++ [.response 0x0000000100000000] } := by
  simp [raise, respond, responseWord_eState]

theorem raise_eNores (s : State) : raise .eNores s = { s with out := s.out ++ [.response 0x0000000200000000] } := by
  simp [raise, respond, responseWord_eNores]

/-- `MAX_TICKS` fits the 32 data bits of a response, since `W ≤ 32` (R4, R5). -/
theorem setWidth_maxTicks (c : Config) :
    BitVec.setWidth 64 (BitVec.ofNat 32 (maxTicks c)) = BitVec.ofNat 64 (2 ^ c.w - 1) :=
  BitVec.setWidth_ofNat_of_le_of_lt (by decide) (maxTicks_lt c)

/-! ## The commands, one equation per case -/

section Commands

variable {s : State}

theorem exec_ctrInit_of_running (running : s.ctrRun = true) : exec .ctrInit s = .next (raise .eState s) := by
  rw [exec, execCtrInit, if_pos running]

theorem exec_ctrInit_of_not_ready (stopped : s.ctrRun = false) (notReady : s.hwOk = false) :
    exec .ctrInit s = .next (raise .eNores s) := by
  simp [exec, execCtrInit, stopped, notReady]

theorem exec_ctrInit_of_ready (stopped : s.ctrRun = false) (ready : s.hwOk = true) :
    exec .ctrInit s =
      .next (respond .ok 0 { s with ctrRun := true, counter := 0, compare := 0, cmpArmed := false }) := by
  simp [exec, execCtrInit, stopped, ready]

theorem exec_ctrSetcmp_of_stopped (stopped : s.ctrRun = false) (d : BitVec 32) (e : Bool) :
    exec (.ctrSetcmp d e) s = .next (raise .eState s) := by
  simp [exec, execCtrSetcmp, stopped]

theorem exec_ctrSetcmp_of_running (running : s.ctrRun = true) (d : BitVec 32) (e : Bool) :
    exec (.ctrSetcmp d e) s = .next (respond .ok 0 { s with compare := truncW s.cfg d.toNat, cmpArmed := e }) := by
  simp [exec, execCtrSetcmp, running]

theorem exec_ctrTestovf_of_running (running : s.ctrRun = true) :
    exec .ctrTestovf s = .next (respond .ok 0 { s with counter := BitVec.ofNat 32 s.cfg.testOvfPreload }) := by
  rw [exec, execCtrTestovf, if_pos running]

theorem exec_ctrTestovf_of_stopped (stopped : s.ctrRun = false) : exec .ctrTestovf s = .next (respond .ok 0 s) := by
  simp [exec, execCtrTestovf, stopped]

end Commands

/-- The encoding paragraph of R83: the flag in bit 40, the target in bits 31:0. -/
theorem encode_ctrSetcmp (d : BitVec 32) (e : Bool) :
    encode (.ctrSetcmp d e) =
      0x1300000000000000 ||| BitVec.setWidth 64 (BitVec.ofBool e) <<< 40 ||| BitVec.setWidth 64 d := by
  simp [encode, layout_eq_or]

/-! ## The obligations -/

/-- Settles O9: the three cases of R80, each with its response as a literal word. -/
theorem ctrInitStartsTheCounter : Obligations.CtrInitStartsTheCounter := by
  refine ⟨by decide, fun s => ⟨fun running => ?_, fun stopped notReady => ?_, fun stopped ready => ?_⟩⟩
  · rw [exec_ctrInit_of_running running, raise_eState]
  · rw [exec_ctrInit_of_not_ready stopped notReady, raise_eNores]
  · rw [exec_ctrInit_of_ready stopped ready, respond_ok_zero]

/-- Settles O10: an `OK` response carries its data zero-extended. -/
theorem ctrReadReturnsTheCount : Obligations.CtrReadReturnsTheCount :=
  ⟨by decide, fun s => by rw [exec, execCtrRead, respond_ok]⟩

/-- Settles O11: `MAX_TICKS` loses nothing in the 32 data bits of the response. -/
theorem ctrMaxReturnsTheConstant : Obligations.CtrMaxReturnsTheConstant :=
  ⟨by decide, fun s => by rw [exec, execCtrMax, respond_ok, setWidth_maxTicks]⟩

/-- Settles O12: the two cases of R83, each with its response as a literal word. -/
theorem ctrSetcmpProgramsTheCompare : Obligations.CtrSetcmpProgramsTheCompare := by
  refine fun d e => ⟨encode_ctrSetcmp d e, fun s => ⟨fun stopped => ?_, fun running => ?_⟩⟩
  · rw [exec_ctrSetcmp_of_stopped stopped, raise_eState]
  · rw [exec_ctrSetcmp_of_running running, respond_ok_zero, truncW]

/-- Settles O13: the response is the same in both modes, and only the running counter is preloaded (R84; K4, log 15). -/
theorem ctrTestovfPreloadsTheCounter : Obligations.CtrTestovfPreloadsTheCounter := by
  refine ⟨by decide, fun s => ⟨fun running => ?_, fun stopped => ?_⟩⟩
  · rw [exec_ctrTestovf_of_running running, respond_ok_zero]
  · rw [exec_ctrTestovf_of_stopped stopped, respond_ok_zero]

end Sys2Proof.Proofs

/-! SUPPORT. The monotonic clock family: what one step does to the base and the counter (R91 to R94, R156), and inductions over
runs counted by their overflowing ticks. -/

namespace Sys2Proof.Proofs

open Sys2Proof.Machine Sys2Proof.Safety

/-! ## The clock commands (R90 to R92, R112, R114) -/

/-- Settles O14: both reads answer `ts`, which is below `2^32` and so is its zero-extension. -/
theorem clockReadsReturnTheTimestamp : Obligations.ClockReadsReturnTheTimestamp := by
  have zext (s : State) : BitVec.setWidth 64 (ts s) =
      BitVec.ofNat 64 ((s.tsBase.toNat + s.counter.toNat / s.cfg.f) % 2 ^ 32) :=
    BitVec.eq_of_toNat_eq (by simp [ts])
  refine ⟨by decide, by decide, fun s => ⟨?_, ?_⟩⟩
  · rw [exec, execClkGet, respond_ok, zext]
  · rw [exec, execTmrNow, respond_ok, zext]

/-- Settles O15: the encoding paragraph of R92, and its one write. -/
theorem clkUpdateOverwritesTheBase : Obligations.ClkUpdateOverwritesTheBase :=
  fun b s => ⟨by simp [encode, layout_eq_or], by rw [exec, execClkUpdate, respond_ok_zero]⟩

theorem startTicks_eq_max (c : Config) (ms : BitVec 32) : startTicks c ms = max (msToTicks c ms) c.minTicks := by
  unfold startTicks
  split <;> omega

/-- Settles O22: the maximum is what `TMR_START` loads, whose bounds hold for every configuration. -/
theorem countdownFitsItsRegister : Obligations.CountdownFitsItsRegister := by
  intro c ms
  rw [← startTicks_eq_max]
  obtain ⟨pos, lt⟩ := startTicks_bounds c ms
  exact ⟨pos, (BitVec.toNat_ofNat ..).trans (Nat.mod_eq_of_lt lt)⟩

/-! ## One counted tick (R91, R156) -/

/-- The base and the counter after a tick of a running counter: the overflow, or one count more. -/
theorem clock_of_evTick {s t : State} (running : s.ctrRun = true) (h : exec .evTick s = .next t) :
    t.cfg = s.cfg ∧ t.ctrRun = true ∧ t.input = s.input ∧
    ((s.counter.toNat = maxTicks s.cfg ∧ t.counter = 0 ∧ t.tsBase = accumulate s.cfg s.tsBase) ∨
      (s.counter.toNat ≠ maxTicks s.cfg ∧ t.counter = s.counter + 1 ∧ t.tsBase = s.tsBase)) := by
  cases exec_effect h with
  | answer command => cases command
  | drive command => simp at command
  | stoppedTick stopped => exact absurd (running.symm.trans stopped) (by decide)
  | tick _ count => exact ⟨rfl, running, rfl, count⟩

/-- Settles O38: what the count loses at the overflow, `MAX_TICKS div F`, the base gains. -/
theorem timestampIsContinuousAcrossTheOverflow : Obligations.TimestampIsContinuousAcrossTheOverflow := by
  intro s t running atMax h
  obtain ⟨-, -, -, ⟨-, counter, base⟩ | ⟨below, -⟩⟩ := clock_of_evTick running h
  · refine ⟨counter, BitVec.eq_of_toNat_eq ?_⟩
    simp [ts, counter, base, accumulate, ovfInc, maxTicks, atMax]
  · exact absurd atMax below

/-! ## What one step does to the clock (R93, R94) -/

/-- Whether an instruction is a tick that overflows (R155, R156): `overflowsNext`, of the instruction instead of the stimulus. -/
def isOverflow (i : Instr) (s : State) : Bool :=
  decide (i = .evTick) && s.ctrRun && decide (s.counter.toNat = maxTicks s.cfg)

theorem accumulate_eq_add (c : Config) (base : BitVec 32) : accumulate c base = base + BitVec.ofNat 32 (ovfInc c) := by
  simp [accumulate, BitVec.ofNat_add]

theorem Effect.cfg_eq {i : Instr} {s t : State} (effect : Effect s i t) : t.cfg = s.cfg := by
  cases effect <;> rfl

/-- Only `CLK_UPDATE`, `EV_RESET` and an overflow write the base (R94). -/
theorem Effect.tsBase_eq {i : Instr} {s t : State} (effect : Effect s i t) (noUpdate : ∀ b, i ≠ .clkUpdate b)
    (noReset : i ≠ .evReset) :
    t.tsBase = s.tsBase + BitVec.ofNat 32 ((isOverflow i s).toNat * ovfInc s.cfg) := by
  cases effect with
  | clkUpdate => exact absurd rfl (noUpdate _)
  | evReset => exact absurd rfl noReset
  | answer command =>
    have noTick : i ≠ .evTick := by rintro rfl; cases command
    simp [isOverflow, noTick]
  | drive command => obtain rfl | ⟨rfl, -⟩ := command <;> simp [isOverflow]
  | stoppedTick stopped => simp [isOverflow, stopped]
  | tick running count =>
    obtain ⟨atMax, -, rfl⟩ | ⟨below, -, rfl⟩ := count
    · simp [isOverflow, running, atMax, accumulate_eq_add]
    · simp [isOverflow, below]
  | _ => simp [isOverflow]

/-- Where nothing but counting changes the time, the whole seconds counted never fall back, an overflow counted as the
`OVF_INC` it moves to the base (R93). -/
theorem Effect.counter_le {i : Instr} {s t : State} (effect : Effect s i t) (counting : rewritesTime i = false)
    (range : CounterInRange s) :
    s.counter.toNat / s.cfg.f ≤ (isOverflow i s).toNat * ovfInc s.cfg + t.counter.toNat / s.cfg.f := by
  cases effect with
  | ctrInit | ctrTestovf | evReset => cases counting
  | tick running count =>
    obtain ⟨atMax, rfl, -⟩ | ⟨below, rfl, -⟩ := count
    · simp [isOverflow, running, atMax, ovfInc]
    · have more : s.counter.toNat ≤ (s.counter + 1).toNat := by
        obtain ⟨inRange, -⟩ := range
        have := maxTicks_lt s.cfg
        bv_omega
      exact (Nat.div_le_div_right more).trans (Nat.le_add_left ..)
  | _ => exact Nat.le_add_left ..

section Step

variable {s t : State} {x : Stimulus} {rest : List Stimulus} (first : s.input = x :: rest) (h : step s = .next t)
include first h

/-- A step executes its stimulus, or answers an illegal command; either way `overflowsNext` says whether it overflows. -/
theorem step_effect :
    (∃ i, stimulusInstr x = some i ∧ Effect { s with input := rest } i t ∧ overflowsNext s = isOverflow i s) ∨
    (overflowsNext s = false ∧ t = answerIllegal { s with input := rest }) := by
  obtain ⟨y, ys, input, step⟩ := step_cases h
  obtain ⟨rfl, rfl⟩ := List.cons.inj (first.symm.trans input)
  obtain ⟨i, legal, next⟩ | ⟨why, illegal, rfl⟩ := step
  · have instr : stimulusInstr x = some i := by simp [stimulusInstr, legal]
    exact .inl ⟨i, instr, exec_effect next, by simp only [overflowsNext, first, instr]; rfl⟩
  · exact .inr ⟨by simp [overflowsNext, first, stimulusInstr, illegal], rfl⟩

theorem step_input : t.input = rest :=
  stimulate_input (step_of_cons first ▸ h)

theorem step_cfg : t.cfg = s.cfg := by
  obtain ⟨i, -, effect, -⟩ | ⟨-, rfl⟩ := step_effect first h
  · exact effect.cfg_eq
  · rfl

theorem step_counterInRange (range : CounterInRange s) : CounterInRange t := by
  obtain ⟨i, -, effect, -⟩ | ⟨-, rfl⟩ := step_effect first h
  · exact effect.counterInRange range
  · exact range

theorem step_tsBase (noUpdate : ∀ b, stimulusInstr x ≠ some (.clkUpdate b)) (noReset : stimulusInstr x ≠ some .evReset) :
    t.tsBase = s.tsBase + BitVec.ofNat 32 ((overflowsNext s).toNat * ovfInc s.cfg) := by
  obtain ⟨i, instr, effect, overflow⟩ | ⟨overflow, rfl⟩ := step_effect first h
  · rw [overflow]
    exact effect.tsBase_eq (fun b e => noUpdate b (e ▸ instr)) (fun e => noReset (e ▸ instr))
  · simp [overflow]

theorem step_counter_le (counting : ∀ i, stimulusInstr x = some i → rewritesTime i = false) (range : CounterInRange s) :
    s.counter.toNat / s.cfg.f ≤ (overflowsNext s).toNat * ovfInc s.cfg + t.counter.toNat / s.cfg.f := by
  obtain ⟨i, instr, effect, overflow⟩ | ⟨-, rfl⟩ := step_effect first h
  · rw [overflow]
    exact effect.counter_le (counting i instr) range
  · exact Nat.le_add_left ..

end Step

/-! ## Runs counted by their overflows (R93, R94) -/

theorem overflowCount_succ {n : Nat} {s t : State} (h : step s = .next t) :
    overflowCount (n + 1) s = (overflowsNext s).toNat + overflowCount n t := by
  rw [overflowCount, h]
  cases overflowsNext s <;> rfl

/-- A relation of a state, a number of overflows and a later state, that holds of no steps and is extended by one allowed step
in front, holds of every run of allowed stimuli. -/
theorem run_overflow_induction {Allowed : Stimulus → Prop} {R : State → Nat → State → Prop} (refl : ∀ s, R s 0 s)
    (front : ∀ {s u t : State} {x : Stimulus} {rest : List Stimulus} {k : Nat}, s.input = x :: rest → Allowed x →
      step s = .next u → R u k t → R s ((overflowsNext s).toNat + k) t)
    {n : Nat} {s t : State} (allowed : ∀ x ∈ s.input.take n, Allowed x)
    (h : Host.Core.run Sys2Proof.core n s = .next t) : R s (overflowCount n s) t := by
  induction n generalizing s with
  | zero =>
    cases h
    exact refl _
  | succ n ih =>
    obtain ⟨u, hstep, hrun⟩ := run_succ.1 h
    obtain ⟨x, rest, first, -⟩ := step_cases hstep
    rw [first, List.take_succ_cons, List.forall_mem_cons] at allowed
    rw [overflowCount_succ hstep]
    exact front first allowed.1 hstep (ih (step_input first hstep ▸ allowed.2) hrun)

/-- O51 as a sum of bit vectors, which wraps where R94 takes the sum modulo `2^32`. -/
theorem run_tsBase {n : Nat} {s t : State}
    (allowed : ∀ x ∈ s.input.take n, (∀ b, stimulusInstr x ≠ some (.clkUpdate b)) ∧ stimulusInstr x ≠ some .evReset)
    (h : Host.Core.run Sys2Proof.core n s = .next t) :
    t.tsBase = s.tsBase + BitVec.ofNat 32 (overflowCount n s * ovfInc s.cfg) := by
  refine run_overflow_induction (R := fun s k t => t.tsBase = s.tsBase + BitVec.ofNat 32 (k * ovfInc s.cfg))
    (fun s => by simp) (fun {s u t x rest k} first ok hstep ih => ?_) allowed h
  obtain ⟨noUpdate, noReset⟩ := ok
  rw [ih, step_tsBase first hstep noUpdate noReset, step_cfg first hstep, Nat.add_mul, BitVec.ofNat_add,
    BitVec.add_assoc]

/-- Settles O51, by induction over the run: each step adds `OVF_INC` if it overflows and 0 if not. -/
theorem baseCountsTheOverflows : Obligations.BaseCountsTheOverflows := by
  intro n s t allowed h
  rw [run_tsBase allowed h, BitVec.ofNat_add, BitVec.ofNat_toNat, BitVec.setWidth_eq]
  rfl

/-- The seconds the counter holds, with the overflows of the run counted in, do not decrease over a run that only counts. -/
theorem run_counter_le {n : Nat} {s t : State} (range : CounterInRange s)
    (counting : ∀ x ∈ s.input.take n, ∀ i, stimulusInstr x = some i → rewritesTime i = false)
    (h : Host.Core.run Sys2Proof.core n s = .next t) :
    t.cfg = s.cfg ∧ s.counter.toNat / s.cfg.f ≤ overflowCount n s * ovfInc s.cfg + t.counter.toNat / s.cfg.f := by
  refine run_overflow_induction
    (R := fun s k t => CounterInRange s →
      t.cfg = s.cfg ∧ s.counter.toNat / s.cfg.f ≤ k * ovfInc s.cfg + t.counter.toNat / s.cfg.f)
    (fun s _ => ⟨rfl, by simp⟩) (fun {s u t x rest k} first ok hstep ih range => ?_) counting h range
  obtain ⟨cfg, later⟩ := ih (step_counterInRange first hstep range)
  have now := step_counter_le first hstep ok range
  rw [step_cfg first hstep] at cfg later
  exact ⟨cfg, by rw [Nat.add_mul]; omega⟩

/-- Settles O53: the base grows by what the counter loses at each overflow, and the sum at the end does not wrap. -/
theorem timestampDoesNotDecrease : Obligations.TimestampDoesNotDecrease := by
  intro n s t range counting h noWrap
  obtain ⟨cfg, seconds⟩ := run_counter_le range counting h
  have allowed : ∀ x ∈ s.input.take n, (∀ b, stimulusInstr x ≠ some (.clkUpdate b)) ∧ stimulusInstr x ≠ some .evReset :=
    fun x hx => ⟨fun b e => Bool.noConfusion (counting x hx _ e), fun e => Bool.noConfusion (counting x hx _ e)⟩
  have base : t.tsBase.toNat = s.tsBase.toNat + overflowCount n s * ovfInc s.cfg := by
    rw [baseCountsTheOverflows n s t allowed h]
    exact (BitVec.toNat_ofNat ..).trans (Nat.mod_eq_of_lt (Nat.lt_of_le_of_lt (Nat.le_add_right ..) noWrap))
  calc (ts s).toNat
      ≤ s.tsBase.toNat + s.counter.toNat / s.cfg.f := (BitVec.toNat_ofNat ..).trans_le (Nat.mod_le ..)
    _ ≤ t.tsBase.toNat + t.counter.toNat / t.cfg.f := by rw [base, cfg]; omega
    _ = (ts t).toNat := by
      refine (Nat.mod_eq_of_lt ?_).symm.trans (BitVec.toNat_ofNat ..).symm
      rw [base, cfg]
      exact noWrap

/-! ## Full periods (L1-2) -/

theorem maxTicks_succ (c : Config) : maxTicks c + 1 = 2 ^ c.w := Nat.sub_add_cancel Nat.one_le_two_pow

/-- One tick of a running counter in closed form: the count modulo `2^W`, its carry times `OVF_INC` to the base. -/
theorem step_counterTick {s : State} {rest : List Stimulus} (running : s.ctrRun = true)
    (range : s.counter.toNat < 2 ^ s.cfg.w) (first : s.input = counterTick :: rest) :
    ∃ t, step s = .next t ∧ t.cfg = s.cfg ∧ t.ctrRun = true ∧ t.input = rest ∧
      t.counter.toNat = (s.counter.toNat + 1) % 2 ^ s.cfg.w ∧
      t.tsBase = s.tsBase + BitVec.ofNat 32 ((s.counter.toNat + 1) / 2 ^ s.cfg.w * ovfInc s.cfg) := by
  have tick : exec .evTick { s with input := rest } =
      .next (compareMatch (advanceCounter { s with input := rest })) := by rw [exec, execEvTick, if_pos running]
  obtain ⟨cfg, running', input, clock⟩ := clock_of_evTick (s := { s with input := rest }) running tick
  have next := (stepRunsTheDecodedInstruction s counterTick rest .evTick first (by decide)).trans tick
  refine ⟨_, next, cfg, running', input, ?_⟩
  have period := maxTicks_succ s.cfg
  obtain ⟨atMax, counter, base⟩ | ⟨below, counter, base⟩ := clock
  · have full : s.counter.toNat + 1 = 2 ^ s.cfg.w := by rw [← period, ← atMax]
    rw [counter, base, full, Nat.mod_self, Nat.div_self (Nat.two_pow_pos _), Nat.one_mul]
    exact ⟨rfl, accumulate_eq_add ..⟩
  · have more : s.counter.toNat + 1 < 2 ^ s.cfg.w := by
      have : s.counter.toNat ≠ maxTicks s.cfg := below
      omega
    have count : (s.counter + 1).toNat = s.counter.toNat + 1 := by
      have := maxTicks_lt s.cfg
      bv_omega
    rw [counter, base, Nat.mod_eq_of_lt more, Nat.div_eq_of_lt more]
    exact ⟨count, by simp⟩

/-- The closed form over `n` ticks, by induction: each tick hands its remainder to the rest of the run and its carry to the
base. -/
theorem run_counterTicks {n : Nat} {s : State} {rest : List Stimulus} (running : s.ctrRun = true)
    (range : s.counter.toNat < 2 ^ s.cfg.w) (input : s.input = List.replicate n counterTick ++ rest) :
    ∃ t : State, Host.Core.run Sys2Proof.core n s = .next t ∧ t.input = rest ∧
      t.counter.toNat = (s.counter.toNat + n) % 2 ^ s.cfg.w ∧
      t.tsBase = s.tsBase + BitVec.ofNat 32 ((s.counter.toNat + n) / 2 ^ s.cfg.w * ovfInc s.cfg) := by
  induction n generalizing s with
  | zero => exact ⟨s, rfl, input, (Nat.mod_eq_of_lt range).symm, by simp [Nat.div_eq_of_lt range]⟩
  | succ n ih =>
    obtain ⟨u, hstep, cfg, running', input', counter, base⟩ := step_counterTick running range input
    have range' : u.counter.toNat < 2 ^ u.cfg.w := by
      rw [counter, cfg]
      exact Nat.mod_lt _ (Nat.two_pow_pos _)
    obtain ⟨t, hrun, done, counter', base'⟩ := ih running' range' input'
    refine ⟨t, run_succ.2 ⟨u, hstep, hrun⟩, done, ?_, ?_⟩
    · rw [counter', counter, cfg, Nat.mod_add_mod, Nat.add_assoc, Nat.add_comm 1]
    · have carry : (s.counter.toNat + (n + 1)) / 2 ^ s.cfg.w =
          (s.counter.toNat + 1) / 2 ^ s.cfg.w + ((s.counter.toNat + 1) % 2 ^ s.cfg.w + n) / 2 ^ s.cfg.w := by
        rw [← Nat.mul_add_div (Nat.two_pow_pos _), ← Nat.add_assoc (_ * _), Nat.div_add_mod, Nat.add_assoc, Nat.add_comm 1]
      rw [base', base, counter, cfg, carry, Nat.add_mul, BitVec.ofNat_add, BitVec.add_assoc]

/-- Settles O52: `k * 2^W` ticks leave remainder 0 and carry `k` times. -/
theorem fullPeriodsAccumulate : Obligations.FullPeriodsAccumulate := by
  intro k s rest running zero input
  obtain ⟨t, hrun, done, counter, base⟩ := run_counterTicks running (by simp [zero]) input
  have start : s.counter.toNat = 0 := congrArg BitVec.toNat zero
  rw [start, Nat.zero_add, Nat.mul_mod_left] at counter
  rw [start, Nat.zero_add, Nat.mul_div_cancel _ (Nat.two_pow_pos _)] at base
  refine ⟨t, hrun, BitVec.eq_of_toNat_eq counter, done, ?_⟩
  rw [base, BitVec.ofNat_add, BitVec.ofNat_toNat, BitVec.setWidth_eq]
  rfl

end Sys2Proof.Proofs

/-! SUPPORT. The wakeup scheduler family: the two commands (R100, R101), how a request ends (R102), and the ticks an armed request
waits for (R103, R156). -/

namespace Sys2Proof.Proofs

open Sys2Proof.Machine Sys2Proof.Safety

/-! ## The commands (R100, R101) -/

theorem raise_eParam (s : State) : raise .eParam s = { s with out := s.out ++ [.response 0x0000000300000000] } := by
  simp [raise, respond, responseWord_eParam]

section Commands

variable {s : State}

theorem exec_wkSched_of_stopped (stopped : s.ctrRun = false) (d : BitVec 32) :
    exec (.wkSched d) s = .next (raise .eState s) := by
  simp [exec, execWkSched, stopped]

theorem exec_wkSched_of_too_long {d : BitVec 32} (running : s.ctrRun = true)
    (tooLong : maxTicks s.cfg < wakeDelta s.cfg d) : exec (.wkSched d) s = .next (raise .eParam s) := by
  simp [exec, execWkSched, running, wakeTooLong, tooLong]

theorem exec_wkSched_of_bounded {d : BitVec 32} (running : s.ctrRun = true)
    (bounded : wakeDelta s.cfg d ≤ maxTicks s.cfg) :
    exec (.wkSched d) s = .next (respond .ok 0
      { s with
        compare := truncW s.cfg (wakeTarget s.cfg s.counter.toNat (wakeDelta s.cfg d))
        cmpArmed := true }) := by
  simp [exec, execWkSched, running, wakeTooLong, bounded]

end Commands

/-- Settles O16: the three cases of R100, each with its response as a literal word. -/
theorem wkSchedProgramsTheWakeup : Obligations.WkSchedProgramsTheWakeup := by
  refine fun d => ⟨by simp [encode, layout_eq_or], fun s =>
    ⟨fun stopped => ?_, fun running tooLong => ?_, fun running bounded => ?_⟩⟩
  · rw [exec_wkSched_of_stopped stopped, raise_eState]
  · rw [exec_wkSched_of_too_long running tooLong, raise_eParam]
  · rw [exec_wkSched_of_bounded running bounded, respond_ok_zero]
    rfl

/-- Settles O17: the encoding paragraph of R101, and its one write. -/
theorem wkSetcbStoresTheToken : Obligations.WkSetcbStoresTheToken :=
  fun t s => ⟨by simp [encode, layout_eq_or], by rw [exec, execWkSetcb, respond_ok_zero]⟩

/-! ## How a request ends (R102) -/

/-- Settles O46: of the effects four can clear the armed bit, and `CTR_INIT` finds it clear already (R80). -/
theorem requestEndsByFiringOrCancelling : Obligations.RequestEndsByFiringOrCancelling := by
  intro i s t atReset h armed disarmed
  cases exec_effect h with
  | ctrInit stopped =>
    obtain ⟨-, -, clear⟩ := atReset stopped
    exact absurd (armed.symm.trans clear) (by decide)
  | @ctrSetcmp d e =>
    obtain rfl : e = false := disarmed
    exact .inr (.inl ⟨d, rfl⟩)
  | wkSched => cases disarmed
  | tick running _ fire =>
    obtain ⟨-, hit, -⟩ | ⟨-, kept, -⟩ := fire
    · exact .inl ⟨rfl, running, hit⟩
    · exact absurd (armed.symm.trans (kept.symm.trans disarmed)) (by decide)
  | evReset => exact .inr (.inr rfl)
  | _ => exact absurd (armed.symm.trans disarmed) (by decide)

/-! ## The ticks to the firing step (R103) -/

theorem two_pow_w_cast (c : Config) : (2 : Int) ^ c.w = maxTicks c + 1 := by
  exact_mod_cast (maxTicks_succ c).symm

theorem ticksToMatch_pos (s : State) : 0 < ticksToMatch s := Nat.succ_pos _

/-- R103 without the modulus: the distance up to `COMPARE`, across the wrap where the count is at or past it. -/
theorem ticksToMatch_eq {s : State} (range : CounterInRange s) :
    ticksToMatch s =
      if s.counter.toNat < s.compare.toNat then s.compare.toNat - s.counter.toNat
      else s.compare.toNat + 2 ^ s.cfg.w - s.counter.toNat := by
  obtain ⟨counter, compare⟩ := range
  rw [ticksToMatch, two_pow_w_cast, ← maxTicks_succ]
  split
  · rw [Int.emod_eq_of_lt (by omega) (by omega)]
    omega
  · rw [← Int.add_emod_right, Int.emod_eq_of_lt (by omega) (by omega)]
    omega

/-- Truncating the target to `W` bits changes nothing under the modulus of R103. -/
theorem ticksToMatch_of_truncW {s : State} {v : Nat} (compare : s.compare = truncW s.cfg v) :
    (ticksToMatch s : Int) = ((v : Int) - s.counter.toNat - 1) % 2 ^ s.cfg.w + 1 := by
  have modulus : (2 : Int) ^ s.cfg.w ≠ 0 := pow_ne_zero _ (by decide)
  have nonneg := Int.emod_nonneg ((s.compare.toNat : Int) - s.counter.toNat - 1) modulus
  rw [ticksToMatch, Int.natCast_add, Int.toNat_of_nonneg nonneg, compare, truncW_toNat]
  push_cast
  simp [Int.sub_emod]

theorem wakeTarget_of_le {c : Config} {t delta : Nat} (noWrap : t + delta ≤ maxTicks c) :
    wakeTarget c t delta = t + delta := if_neg (Nat.not_lt.2 noWrap)

theorem wakeTarget_of_lt {c : Config} {t delta : Nat} (wrap : maxTicks c < t + delta) :
    wakeTarget c t delta = maxTicks c - t + delta := if_pos wrap

/-- A target that fits is stored as it is (R100). -/
theorem truncW_toNat_of_le {c : Config} {v : Nat} (fits : v ≤ maxTicks c) : (truncW c v).toNat = v := by
  rw [truncW_toNat, Nat.mod_eq_of_lt]
  have := maxTicks_succ c
  omega

/-- What a successful `WK_SCHED` leaves in the operands of R103. -/
theorem operands_of_wkSched {d : BitVec 32} {s t : State} (running : s.ctrRun = true)
    (bounded : wakeDelta s.cfg d ≤ maxTicks s.cfg) (h : exec (.wkSched d) s = .next t) :
    t.cfg = s.cfg ∧ t.counter = s.counter ∧
      t.compare = truncW s.cfg (wakeTarget s.cfg s.counter.toNat (wakeDelta s.cfg d)) := by
  rw [exec_wkSched_of_bounded running bounded] at h
  cases h
  exact ⟨rfl, rfl, rfl⟩

/-- Settles O18: where the target fits, its distance from the count is the delay or, if that is 0, a full period; across the
wrap the document's target goes into the modulus as it is. -/
theorem wakeupDelayIsTheRulesFormula : Obligations.WakeupDelayIsTheRulesFormula := by
  intro d s t range running bounded h
  obtain ⟨cfg, counter, compare⟩ := operands_of_wkSched running bounded h
  have range' : CounterInRange t := (exec_effect h).counterInRange range
  obtain ⟨inRange, -⟩ := range
  have stored (noWrap : s.counter.toNat + wakeDelta s.cfg d ≤ maxTicks s.cfg) :
      t.compare.toNat = s.counter.toNat + wakeDelta s.cfg d := by
    rw [compare, wakeTarget_of_le noWrap, truncW_toNat_of_le noWrap]
  refine ⟨fun noWrap positive => ?_, fun zero => ?_, fun wrap => ?_⟩
  · have later : 0 < wakeDelta s.cfg d := Nat.mul_pos positive s.cfg.f_pos
    rw [ticksToMatch_eq range', cfg, counter, stored noWrap, if_pos (by omega), Nat.add_sub_cancel_left, wakeDelta]
  · have now : wakeDelta s.cfg d = 0 := by rw [wakeDelta, zero, Nat.zero_mul]
    rw [now] at stored
    rw [ticksToMatch_eq range', cfg, counter, stored inRange, Nat.add_zero, if_neg (lt_irrefl _),
      Nat.add_sub_cancel_left]
  · have target := wakeTarget_of_lt wrap
    rw [ticksToMatch_of_truncW (cfg ▸ compare), cfg, counter, wakeDelta, target, two_pow_w_cast]
    push_cast [inRange]
    ring_nf

/-- One count further is one tick nearer, and the match itself is the last tick. -/
theorem ticksToMatch_of_count {s u : State} (range : CounterInRange s) (range' : CounterInRange u)
    (cfg : u.cfg = s.cfg) (compare : u.compare = s.compare)
    (counter : u.counter.toNat = (s.counter.toNat + 1) % 2 ^ s.cfg.w) :
    ticksToMatch s = if u.counter = s.compare then 1 else ticksToMatch u + 1 := by
  rw [ticksToMatch_eq range, ticksToMatch_eq range', cfg, compare]
  simp only [← BitVec.toNat_inj, counter]
  obtain ⟨inRange, target⟩ := range
  have period := maxTicks_succ s.cfg
  obtain more | full : s.counter.toNat + 1 < 2 ^ s.cfg.w ∨ s.counter.toNat + 1 = 2 ^ s.cfg.w := by omega
  · simp only [Nat.mod_eq_of_lt more]
    split_ifs <;> omega
  · simp only [full, Nat.mod_self]
    split_ifs <;> omega

/-! ## An armed request under ticks (R102, R156) -/

/-- The match half of a tick under an armed request: it fires and disarms, or leaves the request and the outputs alone. -/
theorem match_of_evTick {s t : State} (running : s.ctrRun = true) (armed : s.cmpArmed = true)
    (h : exec .evTick s = .next t) :
    t.compare = s.compare ∧ t.wkCb = s.wkCb ∧
    ((t.counter = s.compare ∧ t.cmpArmed = false ∧ t.out = s.out ++ notices .wakeup 0 s.wkCb) ∨
      (t.counter ≠ s.compare ∧ t.cmpArmed = true ∧ t.out = s.out)) := by
  cases exec_effect h with
  | answer command => cases command
  | drive command => simp at command
  | stoppedTick stopped => exact absurd (running.symm.trans stopped) (by decide)
  | tick _ _ fire =>
    obtain ⟨-, hit, rfl, rfl⟩ | ⟨miss, rfl, rfl⟩ := fire
    · exact ⟨rfl, rfl, .inl ⟨hit, rfl, rfl⟩⟩
    · exact ⟨rfl, rfl, .inr ⟨miss.resolve_left (by simp [armed]), armed, List.append_nil _⟩⟩

/-- An armed request of a running counter, the counter in range (R15, R102). -/
structure Waiting (s : State) : Prop where
  range : CounterInRange s
  running : s.ctrRun = true
  armed : s.cmpArmed = true

/-- A tick of a waiting request is the firing step if R103 counts one tick to the match; otherwise it leaves the request
waiting, one tick nearer. -/
theorem step_of_waiting {s : State} {rest : List Stimulus} (waiting : Waiting s)
    (first : s.input = counterTick :: rest) :
    ∃ u, step s = .next u ∧ u.input = rest ∧ u.compare = s.compare ∧ u.wkCb = s.wkCb ∧
      ((ticksToMatch s = 1 ∧ u.counter = s.compare ∧ u.cmpArmed = false ∧
          u.out = s.out ++ notices .wakeup 0 s.wkCb) ∨
        (ticksToMatch s = ticksToMatch u + 1 ∧ Waiting u ∧ u.out = s.out)) := by
  obtain ⟨range, running, armed⟩ := waiting
  have period := maxTicks_succ s.cfg
  have below : s.counter.toNat < 2 ^ s.cfg.w := period ▸ Nat.lt_succ_of_le range.1
  obtain ⟨u, next, cfg, running', input, counter, -⟩ := step_counterTick running below first
  have tick : exec .evTick { s with input := rest } = .next u :=
    (stepRunsTheDecodedInstruction s counterTick rest .evTick first (by decide)).symm.trans next
  have range' : CounterInRange u := step_counterInRange first next range
  obtain ⟨compare, wkCb, outcome⟩ := match_of_evTick (s := { s with input := rest }) running armed tick
  refine ⟨u, next, input, compare, wkCb, ?_⟩
  have ticks := ticksToMatch_of_count range range' cfg compare counter
  obtain ⟨hit, disarmed, out⟩ | ⟨miss, armed', out⟩ := outcome
  · exact .inl ⟨ticks.trans (if_pos hit), hit, disarmed, out⟩
  · exact .inr ⟨ticks.trans (if_neg miss), ⟨range', running', armed'⟩, out⟩

/-- The request of `s` fires on the `n`-th step and on none before it, and disarms (R102). -/
def FiresOn (n : Nat) (s : State) : Prop :=
  (∀ k < n, ∃ t, Host.Core.run Sys2Proof.core k s = .next t ∧ t.cmpArmed = true ∧ t.out = s.out) ∧
  ∃ t, Host.Core.run Sys2Proof.core n s = .next t ∧ t.cmpArmed = false ∧ t.counter = s.compare ∧
    t.out = s.out ++ notices .wakeup 0 s.wkCb

theorem firesOn_one {s u : State} (armed : s.cmpArmed = true) (next : step s = .next u) (disarmed : u.cmpArmed = false)
    (counter : u.counter = s.compare) (out : u.out = s.out ++ notices .wakeup 0 s.wkCb) : FiresOn 1 s := by
  refine ⟨fun k hk => ?_, u, run_succ.2 ⟨u, next, rfl⟩, disarmed, counter, out⟩
  obtain rfl : k = 0 := Nat.lt_one_iff.1 hk
  exact ⟨s, rfl, armed, rfl⟩

/-- A step that leaves the request and the outputs alone delays the firing by one. -/
theorem FiresOn.front {n : Nat} {s u : State} (later : FiresOn n u) (armed : s.cmpArmed = true)
    (next : step s = .next u) (compare : u.compare = s.compare) (wkCb : u.wkCb = s.wkCb) (out : u.out = s.out) :
    FiresOn (n + 1) s := by
  obtain ⟨before, t, run, disarmed, counter, notified⟩ := later
  refine ⟨fun k hk => ?_, t, run_succ.2 ⟨u, next, run⟩, disarmed, counter.trans compare, by rw [notified, out, wkCb]⟩
  cases k with
  | zero => exact ⟨s, rfl, armed, rfl⟩
  | succ k =>
    obtain ⟨t, run, armed', out'⟩ := before k (Nat.lt_of_succ_lt_succ hk)
    exact ⟨t, run_succ.2 ⟨u, next, run⟩, armed', out'.trans out⟩

/-- By induction on the ticks to the match: the last one fires, and each one before it leaves the request waiting. -/
theorem firesOn_of_waiting {n : Nat} {s : State} {rest : List Stimulus} (waiting : Waiting s)
    (due : ticksToMatch s = n + 1) (input : s.input = List.replicate (n + 1) counterTick ++ rest) :
    FiresOn (n + 1) s := by
  induction n generalizing s with
  | zero =>
    obtain ⟨u, next, -, -, -, ⟨-, hit, disarmed, out⟩ | ⟨ticks, -⟩⟩ := step_of_waiting waiting input
    · exact firesOn_one waiting.armed next disarmed hit out
    · have := ticksToMatch_pos u
      omega
  | succ n ih =>
    obtain ⟨u, next, input', compare, wkCb, ⟨last, -⟩ | ⟨ticks, waiting', out⟩⟩ := step_of_waiting waiting input
    · omega
    · exact (ih waiting' (by omega) input').front waiting.armed next compare wkCb out

/-- Settles O54: a registered callback makes the firing's notice the one word of R64. -/
theorem wakeupFiresOnceAfterTheRulesTicks : Obligations.WakeupFiresOnceAfterTheRulesTicks := by
  intro s rest range running armed registered input
  obtain ⟨before, t, run, disarmed, counter, out⟩ := firesOn_of_waiting ⟨range, running, armed⟩ rfl input
  refine ⟨before, t, run, disarmed, counter, ?_⟩
  rw [out, notices_of_ne _ _ registered, notifyWord_eq_or]
  simp [NotifyKind.code]

end Sys2Proof.Proofs

/-! SUPPORT. The software timer family: the commands of R110 to R115, one equation per case, and what one instruction can do to
one slot of the pool (R117). -/

namespace Sys2Proof.Proofs

open Sys2Proof.Machine Sys2Proof.Safety

/-! ## The commands, one equation per case (R110 to R115) -/

/-- The slots the rules call invalid: outside the pool, or not created (R116). -/
theorem validHandle_eq_false {s : State} {h : Handle}
    (invalid : s.cfg.nTimers ≤ h.toNat ∨ ∃ t, s.timers[h.toNat]? = some t ∧ t.created = false) :
    validHandle s h = false := by
  rw [Bool.eq_false_iff, ne_eq, validHandle_iff]
  rintro ⟨below, created⟩
  obtain outside | ⟨t, get, free⟩ := invalid
  · omega
  · rw [slot_of_getElem? get, free] at created
    cases created

theorem validHandle_of_created {s : State} {h : Handle} {t : TimerSlot} (below : h.toNat < s.cfg.nTimers)
    (get : s.timers[h.toNat]? = some t) (created : t.created = true) : validHandle s h = true :=
  (validHandle_iff s h).2 ⟨below, by rwa [slot_of_getElem? get]⟩

section Commands

variable {s : State} {h : Handle}

theorem exec_tmrCreate_of_none (full : freeSlot s = none) (cb : Token) :
    exec (.tmrCreate cb) s = .next (raise .eNores s) := by
  simp [exec, execTmrCreate, full]

theorem exec_tmrCreate_of_some {k : Nat} (least : freeSlot s = some k) (cb : Token) :
    exec (.tmrCreate cb) s = .next (respond .ok (BitVec.ofNat 32 k)
      (setSlot s k { created := true, cb := cb, timeoutMs := 0, state := .idle, remaining := 0 })) := by
  simp [exec, execTmrCreate, least]

theorem exec_tmrSetto_of_invalid (invalid : validHandle s h = false) (ms : BitVec 32) :
    exec (.tmrSetto h ms) s = .next (raise .eState s) := by
  simp [exec, execTmrSetto, invalid]

theorem exec_tmrSetto_of_valid (valid : validHandle s h = true) (ms : BitVec 32) :
    exec (.tmrSetto h ms) s =
      .next (respond .ok 0 (setSlot s h.toNat { slot s h with timeoutMs := clampTimeout ms })) := by
  simp [exec, execTmrSetto, valid]

theorem exec_tmrStart_of_invalid (invalid : validHandle s h = false) :
    exec (.tmrStart h) s = .next (raise .eState s) := by
  simp [exec, execTmrStart, invalid]

theorem exec_tmrStart_of_no_timeout (valid : validHandle s h = true) (noTimeout : (slot s h).timeoutMs = 0) :
    exec (.tmrStart h) s = .next (raise .eParam s) := by
  simp [exec, execTmrStart, valid, noTimeout]

theorem exec_tmrStart_of_timeout (valid : validHandle s h = true) (timeout : (slot s h).timeoutMs ≠ 0) :
    exec (.tmrStart h) s = .next (respond .ok 0 (setSlot s h.toNat
      { slot s h with
        remaining := BitVec.ofNat 48 (startTicks s.cfg (slot s h).timeoutMs)
        state := .armed })) := by
  simp only [exec, execTmrStart, valid, Bool.not_true, Bool.false_eq_true, if_false, if_neg timeout]

theorem exec_tmrStop_of_invalid (invalid : validHandle s h = false) :
    exec (.tmrStop h) s = .next (raise .eState s) := by
  simp [exec, execTmrStop, invalid]

theorem exec_tmrStop_of_valid (valid : validHandle s h = true) :
    exec (.tmrStop h) s =
      .next (respond .ok 0 (setSlot s h.toNat { slot s h with state := .idle, remaining := 0 })) := by
  simp [exec, execTmrStop, valid]

end Commands

/-- The saturating subtraction of R115. -/
theorem elapsedSince_toNat (now saved : BitVec 32) : (elapsedSince now saved).toNat = now.toNat - saved.toNat := by
  unfold elapsedSince
  split
  · next past => exact BitVec.toNat_sub_of_le (BitVec.le_def.2 past.le)
  · next notPast => exact (Nat.sub_eq_zero_of_le (Nat.le_of_not_lt notPast)).symm

/-! ## What one instruction does to one slot (R117) -/

/-- Every way an instruction can leave slot `h`, which held `x`. A timer tick reaches every slot. -/
inductive SlotEffect (h : Handle) (x : TimerSlot) : Instr → TimerSlot → Prop
  | keep {i} : SlotEffect h x i x
  | create {cb} (free : x.created = false) :
      SlotEffect h x (.tmrCreate cb) { created := true, cb := cb, timeoutMs := 0, state := .idle, remaining := 0 }
  | setTimeout {ms} : SlotEffect h x (.tmrSetto h ms) { x with timeoutMs := clampTimeout ms }
  | start {ticks} (created : x.created = true) :
      SlotEffect h x (.tmrStart h) { x with remaining := ticks, state := .armed }
  | stop : SlotEffect h x (.tmrStop h) { x with state := .idle, remaining := 0 }
  | tick : SlotEffect h x .evTmrtick (tickSlot x)
  | reset : SlotEffect h x .evReset TimerSlot.free

/-- Past the end of the pool `slot` reads a free slot, which a tick leaves free. -/
theorem slot_tickTimers (s : State) (h : Handle) : slot (tickTimers s) h = tickSlot (slot s h) := by
  rw [slot, tickTimers_timers, tickSlots_fst]
  exact List.getD_map s.timers TimerSlot.free tickSlot

theorem slot_resetBlock (s : State) (h : Handle) : slot (resetBlock s) h = TimerSlot.free := by
  rw [slot, resetBlock_timers, List.getD_eq_getElem?_getD, List.getElem?_replicate]
  split <;> rfl

/-- A command that writes the slot of its own handle leaves every other slot. -/
theorem slotEffect_setSlot {s : State} {i : Instr} {k h : Handle} {x : TimerSlot} (inPool : k.toNat < s.timers.length)
    (own : h = k → SlotEffect h (slot s h) i x) : SlotEffect h (slot s h) i (slot (setSlot s k.toNat x) h) := by
  rw [slot_setSlot inPool]
  split
  · exact own ‹_›
  · exact .keep

/-- A slot index is a handle, since `N_TIMERS ≤ 256` (R4). -/
theorem handle_of_freeSlot {s : State} {k : Nat} (least : freeSlot s = some k) :
    ∃ h : Handle, h.toNat = k ∧ k < s.timers.length ∧ (slot s h).created = false := by
  obtain ⟨below, ⟨t, get, free⟩, -⟩ := (freeSlot_eq_some_iff s k).1 least
  have toNat : (BitVec.ofNat 8 k).toNat = k := by
    have := s.cfg.nTimers_le
    exact (BitVec.toNat_ofNat ..).trans (Nat.mod_eq_of_lt (by omega))
  refine ⟨BitVec.ofNat 8 k, toNat, (List.getElem?_eq_some_iff.1 get).1, ?_⟩
  rwa [slot_of_getElem? (toNat.symm ▸ get)]

/-- The one inversion of a step at a slot. -/
theorem Effect.slotEffect {i : Instr} {s t : State} (effect : Effect s i t) (pool : PoolOk s) (h : Handle) :
    SlotEffect h (slot s h) i (slot t h) := by
  cases effect with
  | tmrCreate least =>
    obtain ⟨k, rfl, inPool, free⟩ := handle_of_freeSlot least
    exact slotEffect_setSlot inPool fun e => .create (e ▸ free)
  | tmrSetto valid =>
    obtain ⟨inPool, -⟩ := slot_of_validHandle pool valid
    refine slotEffect_setSlot inPool ?_
    rintro rfl
    exact .setTimeout
  | tmrStart valid =>
    obtain ⟨inPool, -, -, created⟩ := slot_of_validHandle pool valid
    refine slotEffect_setSlot inPool ?_
    rintro rfl
    exact .start created
  | tmrStop valid =>
    obtain ⟨inPool, -⟩ := slot_of_validHandle pool valid
    refine slotEffect_setSlot inPool ?_
    rintro rfl
    exact .stop
  | evTmrtick =>
    rw [slot_tickTimers]
    exact .tick
  | evReset =>
    rw [slot_resetBlock]
    exact .reset
  | _ => exact .keep

/-- Whatever a handle names, it is well-formed: a slot of the pool, or the free slot read past its end. -/
theorem slotOk_slot {s : State} (pool : PoolOk s) (h : Handle) : SlotOk (slot s h) := by
  obtain ⟨-, slots, -⟩ := pool
  rw [slot, List.getD_eq_getElem?_getD]
  cases get : s.timers[h.toNat]? with
  | none => exact slotOk_free
  | some t => exact slots t (List.mem_of_getElem? get)

/-- A tick makes an Armed slot Idle only at its last count (R157). -/
theorem tickSlot_expires {x : TimerSlot} (armed : x.state = .armed) (idle : (tickSlot x).state = .idle) :
    x.remaining = 1 := by
  obtain e | ⟨-, -, last, -⟩ | ⟨-, -, -, e⟩ := tickSlot_cases x
  · rw [e, armed] at idle
    cases idle
  · exact BitVec.sub_eq_iff_eq_add.1 last
  · rw [e] at idle
    exact absurd (armed.symm.trans idle) (by decide)

theorem tickSlot_idle {x : TimerSlot} (idle : x.state = .idle) : tickSlot x = x := by
  simp [tickSlot, idle]

section Lifecycle

variable {h : Handle} {x y : TimerSlot} {i : Instr}

theorem SlotEffect.create_of_created (effect : SlotEffect h x i y) (free : x.created = false)
    (created : y.created = true) : (∃ cb, i = .tmrCreate cb) ∧ y.state = .idle := by
  cases effect with
  | create => exact ⟨⟨_, rfl⟩, rfl⟩
  | keep | setTimeout | start | stop => exact absurd (free.symm.trans created) (by decide)
  | tick =>
    rw [tickSlot_created, free] at created
    cases created
  | reset => cases created

theorem SlotEffect.reset_of_not_created (effect : SlotEffect h x i y) (created : x.created = true)
    (free : y.created = false) : i = .evReset := by
  cases effect with
  | create => cases free
  | keep | setTimeout | start | stop => exact absurd (created.symm.trans free) (by decide)
  | tick =>
    rw [tickSlot_created, created] at free
    cases free
  | reset => rfl

/-- `create` finds its slot Idle already, since a slot not created is all 0 (R18). -/
theorem SlotEffect.stop_or_expiry_or_reset_of_idle (effect : SlotEffect h x i y) (ok : SlotOk x)
    (armed : x.state = .armed) (idle : y.state = .idle) :
    i = .tmrStop h ∨ (i = .evTmrtick ∧ x.remaining = 1) ∨ i = .evReset := by
  cases effect with
  | create free =>
    obtain ⟨zero, -⟩ := ok
    rw [zero free] at armed
    cases armed
  | keep | setTimeout => exact absurd (armed.symm.trans idle) (by decide)
  | start => cases idle
  | stop => exact .inl rfl
  | tick => exact .inr (.inl ⟨rfl, tickSlot_expires armed idle⟩)
  | reset => exact .inr (.inr rfl)

theorem SlotEffect.start_of_armed (effect : SlotEffect h x i y) (idle : x.state = .idle)
    (armed : y.state = .armed) : i = .tmrStart h ∧ x.created = true := by
  cases effect with
  | keep | setTimeout => exact absurd (idle.symm.trans armed) (by decide)
  | start created => exact ⟨rfl, created⟩
  | tick =>
    rw [tickSlot_idle idle, idle] at armed
    cases armed
  | create | stop | reset => cases armed

end Lifecycle

/-! ## The obligations -/

/-- Settles O47: each clause holds of every slot effect. -/
theorem timersFollowTheirLifecycle : Obligations.TimersFollowTheirLifecycle := by
  intro i h s t pool next
  have effect := (exec_effect next).slotEffect pool h
  exact ⟨effect.create_of_created, effect.reset_of_not_created,
    effect.stop_or_expiry_or_reset_of_idle (slotOk_slot pool h), effect.start_of_armed⟩

/-- Settles O19: the least free index fits the 32 data bits of the response, since `N_TIMERS ≤ 256`. -/
theorem tmrCreateBindsTheLowestFreeSlot : Obligations.TmrCreateBindsTheLowestFreeSlot := by
  refine fun cb s => ⟨by simp [encode, layout_eq_or], fun full => ?_, fun k below free least => ?_⟩
  · rw [exec_tmrCreate_of_none (freeSlot_eq_none_of_all full), raise_eNores]
  · have := s.cfg.nTimers_le
    rw [exec_tmrCreate_of_some ((freeSlot_eq_some_iff s k).2 ⟨below, free, least⟩), respond_ok,
      BitVec.setWidth_ofNat_of_le_of_lt (by decide) (by omega)]
    rfl

/-- Settles O20: the two cases of R111. -/
theorem tmrSettoClampsTheTimeout : Obligations.TmrSettoClampsTheTimeout := by
  refine fun h ms => ⟨by simp [encode, layout_eq_or], fun s => ⟨fun invalid => ?_, fun t below get created => ?_⟩⟩
  · rw [exec_tmrSetto_of_invalid (validHandle_eq_false invalid), raise_eState]
  · rw [exec_tmrSetto_of_valid (validHandle_of_created below get created), respond_ok_zero, slot_of_getElem? get]
    rfl

/-- Settles O21: the three cases of R112; the countdown of R112 is a maximum. -/
theorem tmrStartArmsTheCountdown : Obligations.TmrStartArmsTheCountdown := by
  refine fun h => ⟨by simp [encode, layout_eq_or], fun s => ⟨fun invalid => ?_, fun t below get created => ?_⟩⟩
  · rw [exec_tmrStart_of_invalid (validHandle_eq_false invalid), raise_eState]
  · have valid := validHandle_of_created below get created
    obtain rfl := slot_of_getElem? get
    refine ⟨fun noTimeout => ?_, fun timeout => ?_⟩
    · rw [exec_tmrStart_of_no_timeout valid noTimeout, raise_eParam]
    · rw [exec_tmrStart_of_timeout valid timeout, respond_ok_zero, startTicks_eq_max]
      rfl

/-- Settles O23: the two cases of R113. -/
theorem tmrStopCancelsTheCountdown : Obligations.TmrStopCancelsTheCountdown := by
  refine fun h => ⟨by simp [encode, layout_eq_or], fun s => ⟨fun invalid => ?_, fun t below get created => ?_⟩⟩
  · rw [exec_tmrStop_of_invalid (validHandle_eq_false invalid), raise_eState]
  · rw [exec_tmrStop_of_valid (validHandle_of_created below get created), respond_ok_zero, slot_of_getElem? get]
    rfl

/-- Settles O24: the answer is the subtraction on `Nat`, which saturates as R115 does and loses nothing in 32 bits. -/
theorem tmrElapsedSaturates : Obligations.TmrElapsedSaturates := by
  refine fun saved s => ⟨by simp [encode, layout_eq_or], ?_⟩
  rw [exec, execTmrElapsed, respond_ok, ← BitVec.ofNat_toNat, elapsedSince_toNat, ts, BitVec.toNat_ofNat]

end Sys2Proof.Proofs

/-! SUPPORT. The GPIO family: the commands of R126 to R132, one equation per case, and the pin state machine of R125. -/

namespace Sys2Proof.Proofs

open Sys2Proof.Machine Sys2Proof.Safety

/-! ## The conditions a GPIO command tests -/

/-- The pins on which `GP_ARM` and `GP_READ` answer `E_STATE`, as R127 and R131 write them. -/
theorem isInput_eq_false {s : State} {p : Pin} (noInput : (pin s p).initialized = false ∨ (pin s p).mode ≠ .input) :
    isInput s p = false := by
  rw [Bool.eq_false_iff, ne_eq, isInput_iff]
  rintro ⟨init, mode⟩
  exact noInput.elim (Bool.eq_false_iff.1 · init) (· mode)

/-- The pins on which `GP_WRITE` and `GP_TOGGLE` answer `E_STATE`, as R129 and R130 write them. -/
theorem isOutput_eq_false {s : State} {p : Pin} (noOutput : (pin s p).initialized = false ∨ (pin s p).mode ≠ .output) :
    isOutput s p = false := by
  rw [Bool.eq_false_iff, ne_eq, isOutput_iff]
  rintro ⟨init, mode⟩
  exact noOutput.elim (Bool.eq_false_iff.1 · init) (· mode)

/-! ## The commands, one equation per case (R126 to R132); those of `GP_ARM` stand with `GP_REARM` -/

section Commands

variable {s : State} {p : Pin}

theorem exec_gpCfg_of_configured (configured : (pin s p).initialized = true) (mode : PinMode) (pull : Pull) (v : Bool) :
    exec (.gpCfg p mode pull v) s = .next (raise .eState s) := by
  simp [exec, execGpCfg, configured]

theorem exec_gpCfg_of_unconfigured (unconfigured : (pin s p).initialized = false) (mode : PinMode) (pull : Pull)
    (v : Bool) :
    exec (.gpCfg p mode pull v) s = .next (respond .ok 0 (setPin s p
      { initialized := true, mode := mode, pull := pull, senseToggle := mode == .input, irqMode := .none, evtEn := false,
        prio := 0, outLevel := mode == .output && v })) := by
  simp [exec, execGpCfg, unconfigured]

theorem exec_gpDisarm (s : State) (p : Pin) : exec (.gpDisarm p) s = .next (disarm s p) := rfl

theorem exec_gpWrite_of_not_output (noOutput : isOutput s p = false) (v : Bool) :
    exec (.gpWrite p v) s = .next (raise .eState s) := by
  simp [exec, execGpWrite, noOutput]

theorem exec_gpWrite_of_output (output : isOutput s p = true) (v : Bool) :
    exec (.gpWrite p v) s = .next (respond .ok 0 (setPin s p { pin s p with outLevel := v })) := by
  simp [exec, execGpWrite, output]

theorem exec_gpToggle_of_not_output (noOutput : isOutput s p = false) :
    exec (.gpToggle p) s = .next (raise .eState s) := by
  simp [exec, execGpToggle, noOutput]

theorem exec_gpToggle_of_output (output : isOutput s p = true) :
    exec (.gpToggle p) s = .next (respond .ok 0 (setPin s p { pin s p with outLevel := !(pin s p).outLevel })) := by
  simp [exec, execGpToggle, output]

theorem exec_gpRead_of_not_input (noInput : isInput s p = false) :
    exec (.gpRead p) s = .next (raise .eState s) := by
  simp [exec, execGpRead, noInput]

theorem exec_gpRead_of_input (input : isInput s p = true) :
    exec (.gpRead p) s = .next (respond .ok (zext32 (level s p)) s) := by
  simp [exec, execGpRead, input]

theorem exec_gpDeinit_of_unconfigured (unconfigured : (pin s p).initialized = false) :
    exec (.gpDeinit p) s = .next (raise .eState s) := by
  simp [exec, execGpDeinit, unconfigured]

theorem exec_gpDeinit_of_configured (configured : (pin s p).initialized = true) :
    exec (.gpDeinit p) s = .next (respond .ok 0 (setPin s p PinRecord.unconfigured)) := by
  simp [exec, execGpDeinit, configured, PinRecord.unconfigured]

end Commands

/-- The pad's level as the data of a response (R131). -/
theorem setWidth_zext32 (b : Bool) : BitVec.setWidth 64 (zext32 b) = if b = true then 1 else 0 := by
  cases b <;> rfl

/-! ## What the teardown of `GP_ARM` writes (R127) -/

@[simp] theorem teardownSensing_initialized (r : PinRecord) : (teardownSensing r).initialized = r.initialized := by
  unfold teardownSensing
  split <;> rfl

@[simp] theorem teardownSensing_mode (r : PinRecord) : (teardownSensing r).mode = r.mode := by
  unfold teardownSensing
  split <;> rfl

/-- Once armed again, the teardown shows in the sensing alone. -/
theorem arm_teardownSensing (r : PinRecord) (e : Edge) (prio : BitVec 3) :
    { teardownSensing r with irqMode := e, prio := prio, evtEn := true } =
      { r with
        irqMode := e, prio := prio, evtEn := true
        senseToggle := if r.irqMode = .none then r.senseToggle else true } := by
  by_cases unarmed : r.irqMode = .none
  · simp [teardownSensing, previouslyArmed, unarmed]
  · simp [teardownSensing, previouslyArmed, unarmed]

/-! ## The state of a pin, read off its record (R21, R125) -/

section PinState

variable {r : PinRecord}

theorem pinState_of_unconfigured (init : r.initialized = false) : pinState r = .unconfigured := by
  simp [pinState, init]

theorem pinState_of_input (init : r.initialized = true) (mode : r.mode = .input) :
    pinState r = if r.evtEn then .interruptArmed else .configured .input := by
  simp [pinState, init, mode]

theorem pinState_of_output (init : r.initialized = true) (mode : r.mode = .output) :
    pinState r = .configured .output := by
  simp [pinState, init, mode]

/-- A configured pin is a configured output, or an input with or without its event. -/
theorem pinState_of_configured (init : r.initialized = true) :
    (r.mode = .output ∧ pinState r = .configured .output) ∨
      (r.mode = .input ∧ (pinState r = .configured .input ∨ pinState r = .interruptArmed)) := by
  cases mode : r.mode with
  | output => exact .inl ⟨rfl, pinState_of_output init mode⟩
  | input =>
    rw [pinState_of_input init mode]
    cases r.evtEn <;> simp

theorem pinState_ne_unconfigured (init : r.initialized = true) : pinState r ≠ .unconfigured := by
  obtain ⟨-, e⟩ | ⟨-, e | e⟩ := pinState_of_configured init <;> simp [e]

/-- The inputs are the pins from which the table of R125 lets `GP_ARM` arm. -/
theorem pinState_input_iff :
    (pinState r = .configured .input ∨ pinState r = .interruptArmed) ↔ r.initialized = true ∧ r.mode = .input := by
  cases init : r.initialized with
  | false => simp [pinState_of_unconfigured init]
  | true =>
    obtain ⟨mode, e⟩ | ⟨mode, e | e⟩ := pinState_of_configured init <;> simp [mode, e]

/-- Clearing `evt_en` takes an armed pin back to a configured input and leaves every other pin's state (R128). -/
theorem pinState_disarmed (r : PinRecord) : pinState { r with evtEn := false } =
    if pinState r = .interruptArmed then .configured .input else pinState r := by
  cases init : r.initialized with
  | false => simp [pinState, init]
  | true =>
    cases mode : r.mode with
    | output => simp [pinState, init, mode]
    | input => cases on : r.evtEn <;> simp [pinState, init, mode, on]

end PinState

/-! ## What a GPIO command leaves of the pins (R125) -/

section Table

variable {i : Instr} {p : Pin} {s t u : State} {st : Status} {d : BitVec 32} {r : PinRecord}

/-- A command that only answers leaves every pin. -/
theorem pin_of_answered (answered : exec i s = .next (respond st d s)) (next : exec i s = .next t) (q : Pin) :
    pin t q = pin s q := by
  cases answered.symm.trans next
  rfl

/-- A command that writes a pin's record and answers leaves that record. -/
theorem pin_of_written (written : exec i s = .next (respond st d (setPin u p r))) (next : exec i s = .next t) :
    pin t p = r := by
  cases written.symm.trans next
  exact (pin_setPin u p p r).trans (if_pos rfl)

theorem pinState_gpCfg {mode : PinMode} {pull : Pull} {v : Bool} (next : exec (.gpCfg p mode pull v) s = .next t) :
    pinState (pin t p) = nextPinState (pinState (pin s p)) (.gpCfg p mode pull v) := by
  cases init : (pin s p).initialized with
  | true =>
    rw [pin_of_answered (exec_gpCfg_of_configured init ..) next, nextPinState, if_neg (pinState_ne_unconfigured init)]
  | false =>
    rw [pin_of_written (exec_gpCfg_of_unconfigured init ..) next, nextPinState, if_pos (pinState_of_unconfigured init)]
    cases mode <;> rfl

theorem pinState_gpArm {e : Edge} {prio : BitVec 3} {cb : Token} (edge : e ≠ .none)
    (next : exec (.gpArm p e prio cb) s = .next t) :
    pinState (pin t p) = nextPinState (pinState (pin s p)) (.gpArm p e prio cb) := by
  cases input : isInput s p with
  | true =>
    obtain ⟨init, mode⟩ := (isInput_iff s p).1 input
    rw [pin_of_written (exec_gpArm_of_input edge input ..) next, nextPinState,
      if_pos (pinState_input_iff.2 ⟨init, mode⟩)]
    exact pinState_of_input (by simpa using init) (by simpa using mode)
  | false =>
    have noInput : ¬((pin s p).initialized = true ∧ (pin s p).mode = .input) := by
      rw [← isInput_iff, input]
      exact Bool.false_ne_true
    rw [pin_of_answered (exec_gpArm_of_not_input edge input ..) next, nextPinState,
      if_neg (pinState_input_iff.not.2 noInput)]

theorem pinState_gpDisarm (next : exec (.gpDisarm p) s = .next t) :
    pinState (pin t p) = nextPinState (pinState (pin s p)) (.gpDisarm p) := by
  rw [pin_of_written (exec_gpDisarm s p) next, pinState_disarmed, nextPinState]

/-- The level that an output drives is no part of its state. -/
theorem pinState_gpWrite {v : Bool} (next : exec (.gpWrite p v) s = .next t) :
    pinState (pin t p) = nextPinState (pinState (pin s p)) (.gpWrite p v) := by
  cases output : isOutput s p with
  | true => rw [pin_of_written (exec_gpWrite_of_output output v) next]; rfl
  | false => rw [pin_of_answered (exec_gpWrite_of_not_output output v) next]; rfl

theorem pinState_gpToggle (next : exec (.gpToggle p) s = .next t) :
    pinState (pin t p) = nextPinState (pinState (pin s p)) (.gpToggle p) := by
  cases output : isOutput s p with
  | true => rw [pin_of_written (exec_gpToggle_of_output output) next]; rfl
  | false => rw [pin_of_answered (exec_gpToggle_of_not_output output) next]; rfl

theorem pinState_gpRead (next : exec (.gpRead p) s = .next t) :
    pinState (pin t p) = nextPinState (pinState (pin s p)) (.gpRead p) := by
  cases input : isInput s p with
  | true => rw [pin_of_answered (exec_gpRead_of_input input) next]; rfl
  | false => rw [pin_of_answered (exec_gpRead_of_not_input input) next]; rfl

theorem pinState_gpDeinit (next : exec (.gpDeinit p) s = .next t) :
    pinState (pin t p) = nextPinState (pinState (pin s p)) (.gpDeinit p) := by
  cases init : (pin s p).initialized with
  | true => rw [pin_of_written (exec_gpDeinit_of_configured init) next]; rfl
  | false => rw [pin_of_answered (exec_gpDeinit_of_unconfigured init) next, pinState_of_unconfigured init]; rfl

/-- A GPIO command takes its own pin where the table of R125 says. -/
theorem pinState_of_exec (legal : i.wellFormed = true) (onPin : commandPin i = some p) (next : exec i s = .next t) :
    pinState (pin t p) = nextPinState (pinState (pin s p)) i := by
  cases i with
  | gpCfg => cases onPin; exact pinState_gpCfg next
  | gpArm => cases onPin; exact pinState_gpArm (bne_iff_ne.1 legal) next
  | gpDisarm => cases onPin; exact pinState_gpDisarm next
  | gpWrite => cases onPin; exact pinState_gpWrite next
  | gpToggle => cases onPin; exact pinState_gpToggle next
  | gpRead => cases onPin; exact pinState_gpRead next
  | gpDeinit => cases onPin; exact pinState_gpDeinit next
  | _ => cases onPin

/-- A GPIO command writes no pin but its own. -/
theorem pin_of_exec_ne (onPin : commandPin i = some p) (next : exec i s = .next t) {q : Pin} (other : q ≠ p) :
    pin t q = pin s q := by
  cases exec_effect next with
  | answer => rfl
  | gpCfg | gpDisarm | gpDeinit => cases onPin; exact (pin_setPin ..).trans (if_neg other)
  | @gpArm _ _ _ cb => cases onPin; exact (pin_setPin (setHandler s p cb) p q _).trans (if_neg other)
  | drive command =>
    obtain rfl | ⟨rfl, -⟩ := command <;> cases onPin <;> exact (pin_setPin ..).trans (if_neg other)
  | _ => cases onPin

end Table

/-! ## The obligations -/

/-- Settles O31: the table at the command's own pin, and the frame at the others. -/
theorem gpioCommandsFollowThePinStateMachine : Obligations.GpioCommandsFollowThePinStateMachine :=
  fun _ _ _ _ legal onPin next => ⟨pinState_of_exec legal onPin next, fun _ other => pin_of_exec_ne onPin next other⟩

/-- Settles O25: the three cases of R126; `HANDLER` is no part of what `setPin` writes. -/
theorem gpCfgConfiguresAnUnconfiguredPin : Obligations.GpCfgConfiguresAnUnconfiguredPin := by
  refine fun p mode pull v => ⟨?_, fun s => ⟨fun configured => ?_, fun unconfigured => ?_, fun unconfigured => ?_⟩⟩
  · simp [encode, layout_eq_or, pinBits_shifted, BitVec.or_assoc]
  · rw [exec_gpCfg_of_configured configured, raise_eState]
  · rintro rfl
    rw [exec_gpCfg_of_unconfigured unconfigured, respond_ok_zero]
    rfl
  · rintro rfl
    rw [exec_gpCfg_of_unconfigured unconfigured, respond_ok_zero]
    rfl

/-- Settles O26: the two cases of R127; the teardown shows in the sensing alone. -/
theorem gpArmStoresTheHandler : Obligations.GpArmStoresTheHandler := by
  refine fun p e prio t edge => ⟨?_, fun s => ⟨fun noInput => ?_, fun init mode => ?_⟩⟩
  · simp [encode, layout_eq_or, pinBits_shifted]
  · rw [exec_gpArm_of_not_input edge (isInput_eq_false noInput), raise_eState]
  · rw [exec_gpArm_of_input edge ((isInput_iff s p).2 ⟨init, mode⟩), arm_teardownSensing, respond_ok_zero]
    rfl

/-- Settles O27: R128 has one case. -/
theorem gpDisarmKeepsTheHandler : Obligations.GpDisarmKeepsTheHandler := by
  refine fun p s => ⟨by simp [encode, layout_eq_or, pinBits_shifted], ?_⟩
  rw [exec_gpDisarm, disarm, respond_ok_zero]
  rfl

/-- Settles O28: the two cases of R129 and of R130, which test the same condition. -/
theorem gpWriteAndToggleDriveAnOutput : Obligations.GpWriteAndToggleDriveAnOutput := by
  refine fun p v => ⟨?_, ?_, fun s => ⟨fun noOutput => ?_, fun init mode => ?_⟩⟩
  · simp [encode, layout_eq_or, pinBits_shifted]
  · simp [encode, layout_eq_or, pinBits_shifted]
  · rw [exec_gpWrite_of_not_output (isOutput_eq_false noOutput),
      exec_gpToggle_of_not_output (isOutput_eq_false noOutput), raise_eState]
    exact ⟨rfl, rfl⟩
  · have output := (isOutput_iff s p).2 ⟨init, mode⟩
    rw [exec_gpWrite_of_output output, exec_gpToggle_of_output output, respond_ok_zero, respond_ok_zero]
    exact ⟨rfl, rfl⟩

/-- Settles O29: the two cases of R131. -/
theorem gpReadReturnsThePadLevel : Obligations.GpReadReturnsThePadLevel := by
  refine fun p => ⟨by simp [encode, layout_eq_or, pinBits_shifted], fun s => ⟨fun noInput => ?_, fun init mode => ?_⟩⟩
  · rw [exec_gpRead_of_not_input (isInput_eq_false noInput), raise_eState]
  · rw [exec_gpRead_of_input ((isInput_iff s p).2 ⟨init, mode⟩), respond_ok, setWidth_zext32]

/-- Settles O30: the two cases of R132. -/
theorem gpDeinitReturnsThePinToReset : Obligations.GpDeinitReturnsThePinToReset := by
  refine fun p => ⟨by simp [encode, layout_eq_or, pinBits_shifted], fun s => ⟨fun unconfigured => ?_,
    fun configured => ?_⟩⟩
  · rw [exec_gpDeinit_of_unconfigured unconfigured, raise_eState]
  · rw [exec_gpDeinit_of_configured configured, respond_ok_zero]
    rfl

end Sys2Proof.Proofs

/-! SUPPORT. The exceptions family: the timer service's tick and the run of an Armed slot to its expiry (R157), what each context
writes and produces (R154, R166), the table of R152 command by command, and the events of R156 and R159 to R162. -/

namespace Sys2Proof.Proofs

open Sys2Proof.Machine Sys2Proof.Safety

/-! ## The word of an expiry (R64, R157) -/

/-- The NOTIFY word of slot `h` with the callback `cb` (R64). -/
def timerWord (h : Nat) (cb : Token) : Word :=
  0xF000020000000000 ||| BitVec.ofNat 64 h <<< 32 ||| BitVec.setWidth 64 cb

theorem notifyWord_timer {h : Nat} (inPool : h < 256) (cb : Token) :
    notifyWord .timer (BitVec.ofNat 8 h) cb = timerWord h cb := by
  simp [notifyWord_eq_or, timerWord, NotifyKind.code, BitVec.setWidth_ofNat_of_le_of_lt, inPool]

/-- The token stands in bits 31:0 of a NOTIFY word (R64). -/
theorem setWidth_notifyWord (kind : NotifyKind) (index : BitVec 8) (token : Token) :
    BitVec.setWidth 32 (notifyWord kind index token) = token := by
  apply BitVec.eq_of_getLsbD_eq
  intro i hi
  simp only [notifyWord, BitVec.getLsbD_setWidth, BitVec.getLsbD_append]
  interval_cases i <;> simp

/-- The index stands in bits 39:32 of a NOTIFY word (R64). -/
theorem fieldIdx_notifyWord (kind : NotifyKind) (index : BitVec 8) (token : Token) :
    fieldIdx (notifyWord kind index token) = index := by
  apply BitVec.eq_of_getLsbD_eq
  intro i hi
  simp only [fieldIdx, notifyWord, BitVec.getLsbD_extractLsb', BitVec.getLsbD_append]
  interval_cases i <;> simp

/-- No two slots of the pool have a word in common. -/
theorem timerWord_inj {h k : Nat} (hh : h < 256) (hk : k < 256) {a b : Token} (same : timerWord h a = timerWord k b) :
    h = k := by
  rw [← notifyWord_timer hh, ← notifyWord_timer hk] at same
  have index := congrArg fieldIdx same
  rw [fieldIdx_notifyWord, fieldIdx_notifyWord] at index
  simpa [Nat.mod_eq_of_lt hh, Nat.mod_eq_of_lt hk] using congrArg BitVec.toNat index

/-! ## One timer tick (R157) -/

/-- An Armed slot is created: a slot that is not is all 0, and Idle (R18). -/
theorem created_of_armed {t : TimerSlot} (ok : SlotOk t) (armed : t.state = .armed) : t.created = true := by
  obtain ⟨free, -⟩ := ok
  by_contra notCreated
  rw [free (by simpa using notCreated)] at armed
  cases armed

/-- A tick of a well-formed slot by its state alone. -/
theorem tickSlot_eq {t : TimerSlot} (ok : SlotOk t) :
    tickSlot t =
      if t.state = .armed then
        { t with remaining := t.remaining - 1, state := if t.remaining = 1 then .idle else .armed }
      else t := by
  by_cases armed : t.state = .armed
  · simp only [tickSlot, created_of_armed ok armed, armed, sub_eq_zero, and_self, if_true]
    split
    · rfl
    · rw [← armed]
  · simp [tickSlot, armed]

/-- The word that slot `h` produces at a tick, if it expires and its callback is not null (R157, R158). -/
def expiryNotice (h : Nat) (t : TimerSlot) : Option Output :=
  if t.state = .armed ∧ t.remaining = 1 ∧ t.cb ≠ 0 then some (.notification (timerWord h t.cb)) else none

theorem slotNotices_eq {h : Nat} {t : TimerSlot} (ok : SlotOk t) (inPool : h < 256) :
    slotNotices h t = (expiryNotice h t).toList := by
  by_cases expires : t.state = .armed ∧ t.remaining = 1
  · obtain ⟨armed, last⟩ := expires
    rw [slotNotices, if_pos ⟨created_of_armed ok armed, armed, sub_eq_zero.2 last⟩]
    by_cases null : t.cb = 0
    · rw [expiryNotice, if_neg fun ⟨_, _, registered⟩ => registered null, null, notices_null]
      rfl
    · rw [expiryNotice, if_pos ⟨armed, last, null⟩, notices_of_ne _ _ null, notifyWord_timer inPool]
      rfl
  · rw [slotNotices, if_neg fun ⟨_, armed, last⟩ => expires ⟨armed, sub_eq_zero.1 last⟩, expiryNotice,
      if_neg fun ⟨armed, last, _⟩ => expires ⟨armed, last⟩]
    rfl

theorem slotOk_of_mem {s : State} (pool : PoolOk s) {t : TimerSlot} (mem : t ∈ s.timers) : SlotOk t := by
  obtain ⟨-, slots, -⟩ := pool
  exact slots t mem

/-- A slot index fits the 8 bits of a NOTIFY word's index, since `N_TIMERS ≤ 256` (R4). -/
theorem lt_256_of_poolOk {s : State} (pool : PoolOk s) {h : Nat} {t : TimerSlot} (get : s.timers[h]? = some t) :
    h < 256 := by
  obtain ⟨length, -⟩ := pool
  have := (List.getElem?_eq_some_iff.1 get).1
  have := s.cfg.nTimers_le
  omega

/-- The words of a timer tick, slot by slot in ascending handle order (R157, R163 (b)). -/
theorem tickSlots_snd_eq {s : State} (pool : PoolOk s) :
    (tickSlots 0 s.timers).2 = s.timers.zipIdx.filterMap fun x => expiryNotice x.2 x.1 := by
  rw [tickSlots_snd, List.filterMap_eq_flatMap_toList]
  refine List.flatMap_congr fun x mem => ?_
  have get : s.timers[x.2]? = some x.1 := List.mem_zipIdx_iff_getElem?.1 mem
  exact slotNotices_eq (slotOk_of_mem pool (List.mem_of_getElem? get)) (lt_256_of_poolOk pool get)

/-- Settles O34: each slot of a well-formed pool ticks and notifies by its state, its count and its callback alone. -/
theorem evTmrtickCountsDownEverySlot : Obligations.EvTmrtickCountsDownEverySlot := by
  refine ⟨by decide, fun s pool => ?_⟩
  have timers := List.map_congr_left fun t mem => tickSlot_eq (slotOk_of_mem pool mem)
  rw [exec, execEvTmrtick, tickTimers, tickSlots_fst, timers, tickSlots_snd_eq pool]
  rfl

/-! ## The run of an Armed slot to its expiry (R157 (c)) -/

/-- A step more at the end of a run. -/
theorem run_snoc {n : Nat} {s t u : State} (run : Host.Core.run Sys2Proof.core n s = .next t)
    (next : step t = .next u) : Host.Core.run Sys2Proof.core (n + 1) s = .next u := by
  induction n generalizing s with
  | zero =>
    cases run
    exact run_succ.2 ⟨u, next, rfl⟩
  | succ n ih =>
    obtain ⟨v, first, rest⟩ := run_succ.1 run
    exact run_succ.2 ⟨v, first, ih rest⟩

theorem step_timerTick {s : State} {rest : List Stimulus} (first : s.input = timerTick :: rest) :
    step s = .next (tickTimers (requeue rest s)) :=
  stepRunsTheDecodedInstruction s timerTick rest .evTmrtick first (by decide)

/-- The word of a slot is among those of a tick iff the slot itself expires and its callback is not null. -/
theorem timerWord_mem_tick_iff {s : State} (pool : PoolOk s) {h : Nat} {x : TimerSlot} (get : s.timers[h]? = some x) :
    Output.notification (timerWord h x.cb) ∈ (tickSlots 0 s.timers).2 ↔
      x.state = .armed ∧ x.remaining = 1 ∧ x.cb ≠ 0 := by
  rw [tickSlots_snd_eq pool, List.mem_filterMap]
  constructor
  · rintro ⟨⟨y, k⟩, mem, notice⟩
    have get' : s.timers[k]? = some y := List.mem_zipIdx_iff_getElem?.1 mem
    obtain ⟨expires, same⟩ := Option.ite_none_right_eq_some.1 notice
    obtain rfl := timerWord_inj (lt_256_of_poolOk pool get') (lt_256_of_poolOk pool get)
      (Output.notification.inj (Option.some.inj same))
    obtain rfl := Option.some.inj (get.symm.trans get')
    exact expires
  · exact fun expires => ⟨(x, h), List.mem_zipIdx_iff_getElem?.2 get, if_pos expires⟩

/-- A tick at slot `h` of a well-formed pool. -/
theorem timers_tickTimers {s : State} {h : Nat} {x : TimerSlot} (get : s.timers[h]? = some x) :
    (tickTimers s).timers[h]? = some (tickSlot x) := by
  rw [tickTimers_timers, tickSlots_fst, List.getElem?_map, get, Option.map_some]

/-- The state after `n` ticks that leave slot `h`, which held the Armed slot `x` in `s`, still counting: it has counted `n`, and
its word has not been produced. -/
structure CountedDown (h : Nat) (x : TimerSlot) (n : Nat) (s t : State) : Prop where
  poolOk : PoolOk t
  counting : t.timers[h]? = some { x with remaining := x.remaining - BitVec.ofNat 48 n }
  silent : ∃ words, t.out = s.out ++ words ∧ Output.notification (timerWord h x.cb) ∉ words

/-- The countdown is no matter of the stimuli still waiting. -/
theorem CountedDown.requeue {h n : Nat} {x : TimerSlot} {s t : State} (counted : CountedDown h x n s t)
    (queue : List Stimulus) : CountedDown h x n s (requeue queue t) :=
  ⟨counted.poolOk, counted.counting, counted.silent⟩

theorem sub_ofNat_eq_one_iff {r : BitVec 48} {n : Nat} (counting : n < r.toNat) :
    r - BitVec.ofNat 48 n = 1 ↔ n + 1 = r.toNat := by
  have := r.isLt
  constructor <;> intro h
  · bv_omega
  · bv_omega

section Countdown

variable {h n : Nat} {x : TimerSlot} {s t : State} (armed : x.state = .armed) (counted : CountedDown h x n s t)
include armed counted

/-- A tick before the last counts one further. -/
theorem CountedDown.tick (more : n + 1 < x.remaining.toNat) : CountedDown h x (n + 1) s (tickTimers t) := by
  obtain ⟨pool, get, words, out, absent⟩ := counted
  have notLast : x.remaining - BitVec.ofNat 48 n ≠ 1 := by
    rw [Ne, sub_ofNat_eq_one_iff (by omega)]
    omega
  have ok : SlotOk _ := slotOk_of_mem pool (List.mem_of_getElem? get)
  refine ⟨poolOk_tickTimers pool, ?_, words ++ (tickSlots 0 t.timers).2, ?_, ?_⟩
  · rw [timers_tickTimers get, tickSlot_eq ok]
    simp only [armed, if_true, if_neg notLast, BitVec.ofNat_add, BitVec.sub_sub]
    rfl
  · rw [tickTimers_out, ← List.append_assoc, ← out]
  · rw [List.mem_append, not_or]
    exact ⟨absent, fun mem => have ⟨_, last, _⟩ := (timerWord_mem_tick_iff pool get).1 mem; notLast last⟩

/-- The last tick: the slot is Idle with nothing left, and its word is produced. -/
theorem CountedDown.expire (registered : x.cb ≠ 0) (last : n + 1 = x.remaining.toNat) :
    (tickTimers t).timers[h]? = some { x with state := .idle, remaining := 0 } ∧
      Output.notification (timerWord h x.cb) ∈ (tickTimers t).out.drop s.out.length := by
  obtain ⟨pool, get, words, out, -⟩ := counted
  have one : x.remaining - BitVec.ofNat 48 n = 1 := (sub_ofNat_eq_one_iff (by omega)).2 last
  have ok : SlotOk _ := slotOk_of_mem pool (List.mem_of_getElem? get)
  have notified := (timerWord_mem_tick_iff pool get).2 ⟨armed, one, registered⟩
  constructor
  · rw [timers_tickTimers get, tickSlot_eq ok]
    simp [armed, one]
  · rw [tickTimers_out, out, List.append_assoc, List.drop_left]
    exact List.mem_append_right _ notified

end Countdown

/-- By induction on the ticks, the last one split off: none of them is the one on which the slot expires. -/
theorem run_countedDown {h n : Nat} {x : TimerSlot} {s : State} {rest : List Stimulus} (pool : PoolOk s)
    (get : s.timers[h]? = some x) (armed : x.state = .armed) (counting : n < x.remaining.toNat)
    (input : s.input = List.replicate n timerTick ++ rest) :
    ∃ t : State, Host.Core.run Sys2Proof.core n s = .next t ∧ t.input = rest ∧ CountedDown h x n s t := by
  induction n generalizing rest with
  | zero => exact ⟨s, rfl, input, pool, by simpa using get, [], by simp, by simp⟩
  | succ n ih =>
    rw [List.replicate_succ', List.append_assoc] at input
    obtain ⟨t, run, first, counted⟩ := ih (by omega) input
    exact ⟨_, run_snoc run (step_timerTick first), rfl, (counted.requeue rest).tick armed counting⟩

/-- Settles O55: the run counts down to one tick left, and that tick expires the slot. -/
theorem timerExpiresOnItsLastTick : Obligations.TimerExpiresOnItsLastTick := by
  intro s h x rest pool get armed registered input
  have split {n : Nat} (le : n ≤ x.remaining.toNat) : s.input =
      List.replicate n timerTick ++ (List.replicate (x.remaining.toNat - n) timerTick ++ rest) := by
    rw [← List.append_assoc, ← List.replicate_add, Nat.add_sub_cancel' le, input]
  refine ⟨fun n counting => ?_, ?_⟩
  · obtain ⟨t, run, -, -, counted, words, out, absent⟩ := run_countedDown pool get armed counting (split counting.le)
    refine ⟨t, run, counted, ?_⟩
    rw [out, List.drop_left]
    exact absent
  · obtain ⟨-, -, positive, -⟩ := slotOk_of_mem pool (List.mem_of_getElem? get)
    obtain ⟨n, last⟩ := Nat.exists_eq_add_of_le' (positive armed).1
    obtain ⟨t, run, first, counted⟩ := run_countedDown pool get armed (n := n) (by omega) (split (by omega))
    rw [last, Nat.add_sub_cancel_left] at first
    rw [last]
    exact ⟨_, run_snoc run (step_timerTick first), (counted.requeue rest).expire armed registered last.symm⟩

/-! ## What an event produces (R158, R166) -/

/-- The tag of a NOTIFY word (R64). -/
theorem fieldOp_notifyWord (kind : NotifyKind) (index : BitVec 8) (token : Token) :
    fieldOp (notifyWord kind index token) = 0xF0 := by
  apply BitVec.eq_of_getLsbD_eq
  intro i hi
  simp only [fieldOp, notifyWord, BitVec.getLsbD_extractLsb', BitVec.getLsbD_append]
  interval_cases i <;> simp

/-- Outputs that are NOTIFY words with tokens that are not null (R64, R158). -/
def NotifiesOnly (words : List Output) : Prop :=
  ∀ o ∈ words, ∃ w : Word, Output.notification w = o ∧ w >>> 56 = 0xF0 ∧ BitVec.setWidth 32 w ≠ 0

theorem notifiesOnly_nil : NotifiesOnly [] := nofun

theorem notifiesOnly_notices (kind : NotifyKind) (index : BitVec 8) (token : Token) :
    NotifiesOnly (notices kind index token) := by
  by_cases null : token = 0
  · rw [null, notices_null]
    exact notifiesOnly_nil
  · rw [notices_of_ne _ _ null]
    intro o mem
    obtain rfl := List.mem_singleton.1 mem
    refine ⟨_, rfl, (shiftRight_eq_iff_fieldOp _ 0xF0).2 (fieldOp_notifyWord ..), ?_⟩
    rwa [setWidth_notifyWord]

theorem notifiesOnly_slotNotices (h : Nat) (t : TimerSlot) : NotifiesOnly (slotNotices h t) := by
  unfold slotNotices
  split
  · exact notifiesOnly_notices _ _ _
  · exact notifiesOnly_nil

theorem notifiesOnly_tickSlots (h : Nat) (ts : List TimerSlot) : NotifiesOnly (tickSlots h ts).2 := by
  rw [tickSlots_snd]
  intro o mem
  obtain ⟨x, -, notice⟩ := List.mem_flatMap.1 mem
  exact notifiesOnly_slotNotices x.2 x.1 o notice

/-- Such outputs are the NOTIFY words themselves. -/
theorem NotifiesOnly.exists_words {words : List Output} (only : NotifiesOnly words) :
    ∃ ws : List Word, words = ws.map Output.notification ∧ ∀ w ∈ ws, w >>> 56 = 0xF0 ∧ BitVec.setWidth 32 w ≠ 0 := by
  have range : words ∈ Set.range (List.map Output.notification) := by
    rw [Set.range_list_map]
    exact fun o mem => have ⟨w, same, _⟩ := only o mem; ⟨w, same⟩
  obtain ⟨ws, rfl⟩ := range
  refine ⟨ws, rfl, fun w mem => ?_⟩
  obtain ⟨w', same, tagged⟩ := only _ (List.mem_map_of_mem mem)
  cases same
  exact tagged

/-- Each event appends the words of its notices, or nothing. -/
theorem Effect.notifiesOnly {i : Instr} {s t : State} (effect : Effect s i t) (event : i.port = .event) :
    ∃ words, t.out = s.out ++ words ∧ NotifiesOnly words := by
  have none : ∃ words, s.out = s.out ++ words ∧ NotifiesOnly words := ⟨[], by simp, notifiesOnly_nil⟩
  cases effect with
  | stoppedTick | evPinlvl | evHwok | evReset => exact none
  | tick running count fire =>
    obtain ⟨-, -, -, rfl⟩ | ⟨-, -, rfl⟩ := fire
    · exact ⟨_, rfl, notifiesOnly_notices _ _ _⟩
    · exact ⟨_, rfl, notifiesOnly_nil⟩
  | evTmrtick => exact ⟨_, rfl, notifiesOnly_tickSlots _ _⟩
  | evPinirq => exact ⟨_, rfl, notifiesOnly_notices _ _ _⟩
  | answer command => cases command.symm.trans event
  | drive command => obtain rfl | ⟨rfl, -⟩ := command <;> cases event
  | _ => cases event

/-- Settles O40: what an event appends, as the words alone. -/
theorem eventsOnlyNotify : Obligations.EventsOnlyNotify := by
  intro i s t event next
  obtain ⟨words, out, only⟩ := (exec_effect next).notifiesOnly event
  obtain ⟨ws, rfl, tagged⟩ := only.exists_words
  exact ⟨ws, out, tagged⟩

/-! ## What each context writes (R154) -/

theorem context_eq_interrupt_iff (i : Instr) : context i = .interrupt ↔ i.port = .event := by
  unfold context
  cases i.port <;> simp

theorem context_eq_foreground_iff (i : Instr) : context i = .foreground ↔ i.port = .command := by
  unfold context
  cases i.port <;> simp

/-- A response is no NOTIFY word (R63, R64). -/
theorem notifications_respond (st : Status) (d : BitVec 32) (s : State) :
    notifications (respond st d s) = notifications s := by
  simp [notifications, Output.notification?]

/-- A command appends a response alone to the outputs. -/
theorem Effect.notifications_eq {i : Instr} {s t : State} (effect : Effect s i t) (command : i.port = .command) :
    notifications t = notifications s := by
  cases effect with
  | stoppedTick | tick | evTmrtick | evPinirq | evPinlvl | evHwok | evReset => cases command
  | _ => exact notifications_respond ..

/-- Of a slot, a tick writes the state and the count alone. -/
theorem map_tickSlot_binding (ts : List TimerSlot) :
    (ts.map tickSlot).map (fun x => (x.created, x.cb, x.timeoutMs)) =
      ts.map fun x => (x.created, x.cb, x.timeoutMs) := by
  simp [Function.comp_def]

/-- The elements R154 keeps from the interrupt context: each event but the reset leaves them. -/
theorem Effect.keeps_foreground {i : Instr} {s t : State} (effect : Effect s i t) (event : i.port = .event)
    (noReset : i ≠ .evReset) :
    t.wkCb = s.wkCb ∧ t.pins = s.pins ∧ t.handlers = s.handlers ∧
      t.timers.map (fun x => (x.created, x.cb, x.timeoutMs)) =
        s.timers.map (fun x => (x.created, x.cb, x.timeoutMs)) := by
  cases effect with
  | stoppedTick | tick | evPinirq | evPinlvl | evHwok => exact ⟨rfl, rfl, rfl, rfl⟩
  | evTmrtick =>
    refine ⟨rfl, rfl, rfl, ?_⟩
    rw [tickTimers_timers, tickSlots_fst, map_tickSlot_binding]
  | evReset => exact absurd rfl noReset
  | answer command => cases command.symm.trans event
  | drive command => obtain rfl | ⟨rfl, -⟩ := command <;> cases event
  | _ => cases event

/-- Settles O44: the two contexts, each by its port. -/
theorem contextsWriteOnlyWhatTheyMay : Obligations.ContextsWriteOnlyWhatTheyMay := by
  intro i s t next
  rw [context_eq_interrupt_iff, context_eq_foreground_iff]
  exact ⟨(exec_effect next).keeps_foreground, (exec_effect next).notifications_eq⟩

/-! ## The table of R152, command by command -/

/-- Command `i` answers in `s` as the table of R152 and R63 say: `CommandsAnswerTheTabledStatus` of one command. -/
def AnswersTheTable (i : Instr) (s : State) : Prop :=
  ∃ (d : BitVec 32) (t : State),
    exec i s = .next t ∧
    t.out = s.out ++ [.response (BitVec.setWidth 64 (tableStatus i s).code <<< 32 ||| BitVec.setWidth 64 d)] ∧
    (tableStatus i s ≠ .ok ∨ returnsValue i = false → d = 0) ∧
    (tableStatus i s ≠ .ok ∨ (returnsValue i = true ∧ ∀ cb, i ≠ .tmrCreate cb) → t = { s with out := t.out })

section Answers

variable {i : Instr} {s u : State} {d : BitVec 32} {e : Status}

/-- An answer with the table's status: data and writes only with `OK`, data only from a command that returns a value, writes
only from one that does not, `TMR_CREATE` aside. -/
theorem answersTheTable_of_respond (next : exec i s = .next (respond (tableStatus i s) d u)) (out : u.out = s.out)
    (data : tableStatus i s ≠ .ok ∨ returnsValue i = false → d = 0)
    (frame : tableStatus i s ≠ .ok ∨ (returnsValue i = true ∧ ∀ cb, i ≠ .tmrCreate cb) → u = s) :
    AnswersTheTable i s := by
  refine ⟨d, _, next, ?_, data, fun kept => ?_⟩
  · rw [respond_out, responseWord_eq_or, out]
  · rw [frame kept]
    rfl

theorem answersTheTable_of_raise (next : exec i s = .next (raise e s)) (table : tableStatus i s = e) :
    AnswersTheTable i s :=
  answersTheTable_of_respond (table ▸ next) rfl (fun _ => rfl) fun _ => rfl

theorem answersTheTable_of_value (next : exec i s = .next (respond .ok d s)) (table : tableStatus i s = .ok)
    (value : returnsValue i = true) : AnswersTheTable i s :=
  answersTheTable_of_respond (table ▸ next) rfl (by simp [table, value]) fun _ => rfl

theorem answersTheTable_of_done (next : exec i s = .next (respond .ok 0 u)) (out : u.out = s.out)
    (table : tableStatus i s = .ok) (silent : returnsValue i = false) : AnswersTheTable i s :=
  answersTheTable_of_respond (table ▸ next) out (fun _ => rfl) (by simp [table, silent])

/-- A command that returns no value, with `E_STATE` as its one error. -/
theorem answersTheTable_of_eState {c : Prop} [Decidable c] (table : tableStatus i s = if c then .eState else .ok)
    (silent : returnsValue i = false) (error : c → exec i s = .next (raise .eState s))
    (done : ¬c → exec i s = .next (respond .ok 0 u)) (out : u.out = s.out) : AnswersTheTable i s := by
  by_cases bad : c
  · exact answersTheTable_of_raise (error bad) (table.trans (if_pos bad))
  · exact answersTheTable_of_done (done bad) out (table.trans (if_neg bad)) silent

end Answers

section Table

variable (s : State)

theorem answersTheTable_ctrInit : AnswersTheTable .ctrInit s := by
  cases running : s.ctrRun with
  | true => exact answersTheTable_of_raise (exec_ctrInit_of_running running) (by simp [tableStatus, running])
  | false =>
    cases ready : s.hwOk with
    | false =>
      exact answersTheTable_of_raise (exec_ctrInit_of_not_ready running ready) (by simp [tableStatus, running, ready])
    | true =>
      exact answersTheTable_of_done (exec_ctrInit_of_ready running ready) rfl
        (by simp [tableStatus, running, ready]) rfl

theorem answersTheTable_ctrTestovf : AnswersTheTable .ctrTestovf s := by
  cases running : s.ctrRun with
  | true => exact answersTheTable_of_done (exec_ctrTestovf_of_running running) rfl rfl rfl
  | false => exact answersTheTable_of_done (exec_ctrTestovf_of_stopped running) rfl rfl rfl

theorem answersTheTable_wkSched (d : BitVec 32) : AnswersTheTable (.wkSched d) s := by
  cases running : s.ctrRun with
  | false => exact answersTheTable_of_raise (exec_wkSched_of_stopped running d) (by simp [tableStatus, running])
  | true =>
    by_cases tooLong : maxTicks s.cfg < wakeDelta s.cfg d
    · refine answersTheTable_of_raise (exec_wkSched_of_too_long running tooLong) ?_
      simp only [tableStatus, running, Bool.true_eq_false, if_false]
      exact if_pos tooLong
    · refine answersTheTable_of_done (exec_wkSched_of_bounded running (Nat.le_of_not_lt tooLong)) rfl ?_ rfl
      simp only [tableStatus, running, Bool.true_eq_false, if_false]
      exact if_neg tooLong

/-- Without a free slot, every slot of the pool is created (R110). -/
theorem created_of_freeSlot_eq_none {s : State} (full : freeSlot s = none) :
    ∀ h < s.cfg.nTimers, ((s.timers[h]?).map TimerSlot.created).getD true = true := by
  intro h below
  cases get : s.timers[h]? with
  | none => rfl
  | some t =>
    have mem : t ∈ s.timers.take s.cfg.nTimers :=
      List.mem_of_getElem? ((List.getElem?_take_of_lt below).trans get)
    simpa using List.findIdx?_eq_none_iff.1 full t mem

theorem answersTheTable_tmrCreate (cb : Token) : AnswersTheTable (.tmrCreate cb) s := by
  cases least : freeSlot s with
  | none =>
    exact answersTheTable_of_raise (exec_tmrCreate_of_none least cb) (if_pos (created_of_freeSlot_eq_none least))
  | some k =>
    obtain ⟨below, ⟨t, get, free⟩, -⟩ := (freeSlot_eq_some_iff s k).1 least
    have table : tableStatus (.tmrCreate cb) s = .ok := if_neg fun all => by simpa [get, free] using all k below
    have next := exec_tmrCreate_of_some least cb
    rw [← table] at next
    exact answersTheTable_of_respond next rfl (by simp [table, returnsValue]) (by simp [table])

theorem answersTheTable_tmrStart (h : Handle) : AnswersTheTable (.tmrStart h) s := by
  cases valid : validHandle s h with
  | false => exact answersTheTable_of_raise (exec_tmrStart_of_invalid valid) (by simp [tableStatus, valid])
  | true =>
    by_cases timeout : (slot s h).timeoutMs = 0
    · exact answersTheTable_of_raise (exec_tmrStart_of_no_timeout valid timeout) (by simp [tableStatus, valid, timeout])
    · refine answersTheTable_of_done (exec_tmrStart_of_timeout valid timeout) rfl ?_ rfl
      simp only [tableStatus, valid, Bool.true_eq_false, if_false, if_neg timeout]

/-- The pins on which `GP_ARM` and `GP_READ` answer `OK` are those on which the table has no `E_STATE` for them. -/
theorem isInput_of_not {s : State} {p : Pin} (input : ¬((pin s p).initialized = false ∨ (pin s p).mode ≠ .input)) :
    isInput s p = true := by
  simpa [isInput_iff] using input

/-- The same of `GP_WRITE` and `GP_TOGGLE`. -/
theorem isOutput_of_not {s : State} {p : Pin} (output : ¬((pin s p).initialized = false ∨ (pin s p).mode ≠ .output)) :
    isOutput s p = true := by
  simpa [isOutput_iff] using output

theorem answersTheTable_gpRead (p : Pin) : AnswersTheTable (.gpRead p) s := by
  by_cases noInput : (pin s p).initialized = false ∨ (pin s p).mode ≠ .input
  · exact answersTheTable_of_raise (exec_gpRead_of_not_input (isInput_eq_false noInput)) (if_pos noInput)
  · exact answersTheTable_of_value (exec_gpRead_of_input (isInput_of_not noInput)) (if_neg noInput) rfl

end Table

/-- Settles O39: a command without an error by its one answer, one with `E_STATE` alone by its test, and the others one by
one. -/
theorem commandsAnswerTheTabledStatus : Obligations.CommandsAnswerTheTabledStatus := by
  intro i s legal command _
  change AnswersTheTable i s
  cases i with
  | ctrRead | ctrMax | clkGet | tmrNow | tmrElapsed _ => exact answersTheTable_of_value rfl rfl rfl
  | clkUpdate _ | wkSetcb _ | gpDisarm _ => exact answersTheTable_of_done rfl rfl rfl rfl
  | ctrInit => exact answersTheTable_ctrInit s
  | ctrTestovf => exact answersTheTable_ctrTestovf s
  | wkSched d => exact answersTheTable_wkSched s d
  | tmrCreate cb => exact answersTheTable_tmrCreate s cb
  | tmrStart h => exact answersTheTable_tmrStart s h
  | gpRead p => exact answersTheTable_gpRead s p
  | ctrSetcmp d e =>
    exact answersTheTable_of_eState rfl rfl (exec_ctrSetcmp_of_stopped · d e)
      (fun run => exec_ctrSetcmp_of_running (Bool.of_not_eq_false run) d e) rfl
  | tmrSetto h ms =>
    exact answersTheTable_of_eState rfl rfl (exec_tmrSetto_of_invalid · ms)
      (fun valid => exec_tmrSetto_of_valid (Bool.of_not_eq_false valid) ms) rfl
  | tmrStop h =>
    exact answersTheTable_of_eState rfl rfl exec_tmrStop_of_invalid
      (fun valid => exec_tmrStop_of_valid (Bool.of_not_eq_false valid)) rfl
  | gpCfg p mode pull v =>
    exact answersTheTable_of_eState rfl rfl (exec_gpCfg_of_configured · mode pull v)
      (fun free => exec_gpCfg_of_unconfigured (Bool.of_not_eq_true free) mode pull v) rfl
  | gpArm p e prio cb =>
    have edge : e ≠ .none := bne_iff_ne.1 legal
    exact answersTheTable_of_eState rfl rfl
      (fun noInput => exec_gpArm_of_not_input edge (isInput_eq_false noInput) prio cb)
      (fun input => exec_gpArm_of_input edge (isInput_of_not input) prio cb) rfl
  | gpWrite p v =>
    exact answersTheTable_of_eState rfl rfl (fun noOutput => exec_gpWrite_of_not_output (isOutput_eq_false noOutput) v)
      (fun output => exec_gpWrite_of_output (isOutput_of_not output) v) rfl
  | gpToggle p =>
    exact answersTheTable_of_eState rfl rfl (fun noOutput => exec_gpToggle_of_not_output (isOutput_eq_false noOutput))
      (fun output => exec_gpToggle_of_output (isOutput_of_not output)) rfl
  | gpDeinit p =>
    exact answersTheTable_of_eState rfl rfl exec_gpDeinit_of_unconfigured
      (fun configured => exec_gpDeinit_of_configured (Bool.of_not_eq_false configured)) rfl
  | evTick | evTmrtick | evPinirq _ _ | evPinlvl _ _ | evHwok _ | evReset => cases command

/-! ## The other events, one equation per case (R156, R159 to R162) -/

theorem exec_evTick_of_stopped {s : State} (stopped : s.ctrRun = false) : exec .evTick s = .next s := by
  simp [exec, execEvTick, stopped]

/-- A tick of a running counter: the count and the base of R156, then the match on that count. -/
theorem exec_evTick_of_running {s : State} {c b : BitVec 32} (running : s.ctrRun = true)
    (count : c = if s.counter.toNat = maxTicks s.cfg then 0 else s.counter + 1)
    (base : b = if s.counter.toNat = maxTicks s.cfg then accumulate s.cfg s.tsBase else s.tsBase) :
    exec .evTick s = .next (compareMatch { s with counter := c, tsBase := b }) := by
  have advanced : advanceCounter s = { s with counter := c, tsBase := b } := by
    obtain ⟨atMax, e⟩ | ⟨below, e⟩ := advanceCounter_cases s
    · rw [e, count, base, if_pos atMax, if_pos atMax]
    · rw [e, count, base, if_neg below, if_neg below]
  rw [exec, execEvTick, if_pos running, advanced]

theorem compareMatch_of_miss {s : State} (miss : s.cmpArmed = false ∨ s.counter ≠ s.compare) : compareMatch s = s := by
  obtain ⟨armed, hit, -⟩ | ⟨-, e⟩ := compareMatch_cases s
  · exact absurd hit (miss.resolve_left (by simp [armed]))
  · exact e

theorem compareMatch_of_hit {s : State} (armed : s.cmpArmed = true) (hit : s.counter = s.compare) :
    compareMatch s = { s with cmpArmed := false, out := s.out ++ notices .wakeup 0 s.wkCb } := by
  obtain ⟨-, -, e⟩ | ⟨miss, -⟩ := compareMatch_cases s
  · exact e
  · exact absurd hit (miss.resolve_left (by simp [armed]))

/-- Settles O33: the tick's count and base, then the three outcomes of the match on that count. -/
theorem evTickCountsAndMatches : Obligations.EvTickCountsAndMatches := by
  refine ⟨by decide, fun s => ⟨exec_evTick_of_stopped, fun c b running count base => ?_⟩⟩
  have matched := compareMatch_of_hit (s := { s with counter := c, tsBase := b })
  rw [exec_evTick_of_running running count base]
  refine ⟨fun miss => ?_, fun armed hit null => ?_, fun armed hit registered => ?_⟩
  · rw [compareMatch_of_miss miss]
  · rw [matched armed hit, null, notices_null, List.append_nil]
  · rw [matched armed hit, notices_of_ne _ _ registered, notifyWord_eq_or]
    simp [NotifyKind.code]

section PinEvents

variable {p : Pin} {e : Edge} {s : State} (polarity : e = .rising ∨ e = .falling)
include polarity

theorem exec_evPinirq_of_delivered (delivered : envDelivers s p e = true) :
    exec (.evPinirq p e) s = .next (notify .gpio (BitVec.setWidth 8 p) (handler s p) s) := by
  obtain rfl | rfl := polarity <;> simp [exec, execEvPinirq, delivered]

theorem exec_evPinirq_of_filtered (filtered : envDelivers s p e = false) :
    exec (.evPinirq p e) s = .refused .filteredEvent := by
  obtain rfl | rfl := polarity <;> simp [exec, execEvPinirq, filtered]

end PinEvents

/-- The events the environment produces, as R159 writes them (R60). -/
theorem envDelivers_iff (s : State) (p : Pin) (e : Edge) :
    envDelivers s p e = true ↔
      s.cfg.gpioEnvFiltered = false ∨ ((pin s p).evtEn = true ∧ (pin s p).irqMode.code &&& e.code ≠ 0) := by
  simp [envDelivers, edgeMatches]

theorem envDelivers_eq_false {s : State} {p : Pin} {e : Edge} (filtering : s.cfg.gpioEnvFiltered = true)
    (excluded : (pin s p).evtEn = false ∨ (pin s p).irqMode.code &&& e.code = 0) : envDelivers s p e = false := by
  rw [Bool.eq_false_iff, ne_eq, envDelivers_iff]
  rintro (unfiltered | ⟨enabled, matching⟩)
  · exact absurd (filtering.symm.trans unfiltered) (by decide)
  · exact excluded.elim (fun off => absurd (off.symm.trans enabled) (by decide)) matching

theorem notify_null (kind : NotifyKind) (index : BitVec 8) (s : State) : notify kind index 0 s = s := by
  rw [notify, notices_null, List.append_nil]

/-- The NOTIFY word of pin `p` with its handler (R64, R159). -/
theorem notifyWord_gpio (p : Pin) (token : Token) :
    notifyWord .gpio (BitVec.setWidth 8 p) token =
      0xF000030000000000 ||| BitVec.setWidth 64 p <<< 32 ||| BitVec.setWidth 64 token := by
  simp [notifyWord_eq_or, NotifyKind.code]

/-- Settles O35: a delivered event notifies by the pin's handler, and the filter's condition is the negation of delivery. -/
theorem evPinirqDispatchesTheHandler : Obligations.EvPinirqDispatchesTheHandler := by
  refine fun p e polarity => ⟨?_, fun s => ⟨fun delivered => ?_, fun filtering excluded => ?_⟩⟩
  · simp [encode, layout_eq_or, pinBits_shifted]
  · rw [exec_evPinirq_of_delivered polarity ((envDelivers_iff s p e).2 delivered)]
    refine ⟨fun null => ?_, fun registered => ?_⟩
    · rw [null, notify_null]
    · rw [notify, notices_of_ne _ _ registered, notifyWord_gpio]
  · exact exec_evPinirq_of_filtered polarity (envDelivers_eq_false filtering excluded)

/-- Settles O36: the encoding paragraph of R160, and its one write. -/
theorem evPinlvlSetsThePadLevel : Obligations.EvPinlvlSetsThePadLevel :=
  fun p b s => ⟨by simp [encode, layout_eq_or, pinBits_shifted], by rw [exec, execEvPinlvl, setLevel]⟩

/-- Settles O37: the encoding paragraph of R161, and its one write. -/
theorem evHwokSetsTheHealthInput : Obligations.EvHwokSetsTheHealthInput :=
  fun ok s => ⟨by simp [encode, layout_eq_or], by rw [exec, execEvHwok]⟩

/-- Settles O2: the reset values are those of power-up, and `resetBlock` keeps the inputs and the model's own fields. -/
theorem resetEventResetsTheBlock : Obligations.ResetEventResetsTheBlock := by
  refine ⟨by decide, fun s => ?_⟩
  rw [exec, execEvReset, resetBlock_eq_powerUp, State.powerUp, TimerSlot.free, PinRecord.unconfigured]

end Sys2Proof.Proofs

/-! SUPPORT. The reset and hazards family: no well-formed stimulus is refused, so no run is stuck (R195), and what one stimulus
adds to the two streams (R63, R154), so that along a run they only grow. -/

namespace Sys2Proof.Proofs

open Sys2Proof.Machine

/-! ## What presenting one stimulus does -/

/-- Only a command can be illegal: an event that is none is refused (R61, R62). -/
theorem port_of_decode_illegal {p : Port} {w : Word} {why : Reject} (illegal : decode p w = .illegal why) :
    p = .command := by
  cases p with
  | command => rfl
  | event =>
    unfold decode at illegal
    cases e : decodeWord .event w <;> simp [e] at illegal

section Stimulus

variable {x : Stimulus} {s t : State}

/-- The one inversion of `stimulate`: the effect of an instruction of the stimulus's port, or the answer to an illegal command. -/
theorem stimulate_effect (h : stimulate x s = .next t) :
    (∃ i, i.port = x.port ∧ Effect s i t) ∨ (x.port = .command ∧ t = answerIllegal s) := by
  rw [stimulate_eq] at h
  cases decoded : decode x.port x.word with
  | stimulus i =>
    rw [decoded] at h
    obtain ⟨-, -, port⟩ := encodeOfDecodeIsTheWord _ _ _ decoded
    exact .inl ⟨i, port, exec_effect h⟩
  | illegal why =>
    rw [decoded] at h
    cases h
    exact .inr ⟨port_of_decode_illegal decoded, rfl⟩
  | refused why =>
    rw [decoded] at h
    cases h

theorem stimulate_cfg (h : stimulate x s = .next t) : t.cfg = s.cfg := by
  obtain ⟨i, -, effect⟩ | ⟨-, rfl⟩ := stimulate_effect h
  · exact effect.cfg_eq
  · rfl

end Stimulus

/-! ## No stuck state (R195) -/

/-- Settles O41: `EV_PINIRQ` is delivered where the environment does not filter, and every other instruction answers a next state
whatever it tests. -/
theorem noWellFormedStimulusIsRefused : Obligations.NoWellFormedStimulusIsRefused := by
  intro i s legal unfiltered
  cases i with
  | evPinirq p e =>
    have polarity : e = .rising ∨ e = .falling := by simpa [Instr.wellFormed] using legal
    exact ⟨_, exec_evPinirq_of_delivered polarity ((envDelivers_iff s p e).2 (.inl unfiltered))⟩
  | _ => exact ⟨_, rfl⟩

/-- A stimulus that is not malformed has a step: the decoder yields well-formed instructions only, and an illegal command is
answered. -/
theorem exists_stimulate_next {x : Stimulus} {s : State} (unfiltered : s.cfg.gpioEnvFiltered = false)
    (admitted : ∀ why, decode x.port x.word ≠ .refused why) : ∃ t, stimulate x s = .next t := by
  rw [stimulate_eq]
  cases decoded : decode x.port x.word with
  | stimulus i =>
    obtain ⟨-, legal, -⟩ := encodeOfDecodeIsTheWord _ _ _ decoded
    exact noWellFormedStimulusIsRefused i s legal unfiltered
  | illegal why => exact ⟨_, rfl⟩
  | refused why => exact absurd decoded (admitted why)

/-- The state after one stimulus; where the stimulus has no step, the state it was presented to. -/
def stateAfter (x : Stimulus) (s : State) : State :=
  match stimulate x s with
  | .next t => t
  | .fault _ | .refused _ => s

theorem stateAfter_of_next {x : Stimulus} {s t : State} (h : stimulate x s = .next t) : stateAfter x s = t := by
  rw [stateAfter, h]

/-- The states that the stimuli `xs` lead to from `s`. -/
def statesFrom (s : State) (xs : Nat → Stimulus) : Nat → State
  | 0 => s
  | n + 1 => stateAfter (xs n) (statesFrom s xs n)

section InfiniteRun

variable {s : State} {xs : Nat → Stimulus} (unfiltered : s.cfg.gpioEnvFiltered = false)
  (admitted : ∀ n why, decode (xs n).port (xs n).word ≠ .refused why)
include unfiltered admitted

/-- A state that does not filter has a step, and it leads to the next of the states. -/
theorem stimulate_statesFrom {n : Nat} (still : (statesFrom s xs n).cfg = s.cfg) :
    stimulate (xs n) (statesFrom s xs n) = .next (statesFrom s xs (n + 1)) := by
  obtain ⟨t, next⟩ := exists_stimulate_next (still ▸ unfiltered) (admitted n)
  rw [statesFrom, stateAfter_of_next next, next]

/-- No step writes the parameters, so no state of the run filters. -/
theorem statesFrom_cfg (n : Nat) : (statesFrom s xs n).cfg = s.cfg := by
  induction n with
  | zero => rfl
  | succ n ih => exact (stimulate_cfg (stimulate_statesFrom unfiltered admitted ih)).trans ih

end InfiniteRun

/-- Settles O56: the states the stimuli lead to, each step a step of the block. -/
theorem everyStimulusSequenceMakesAnInfiniteRun : Obligations.EveryStimulusSequenceMakesAnInfiniteRun :=
  fun xs s unfiltered admitted =>
    ⟨statesFrom s xs, rfl, fun n _ => stimulate_statesFrom unfiltered admitted (statesFrom_cfg unfiltered admitted n)⟩

/-! ## What one stimulus adds to the streams (R63, R154) -/

section Streams

variable {i : Instr} {x : Stimulus} {s t : State}

/-- Every command ends in one `respond`, and nothing it writes before that is an output (R63). -/
theorem Effect.out_of_command (effect : Effect s i t) (command : i.port = .command) :
    ∃ w, t.out = s.out ++ [.response w] := by
  cases effect with
  | stoppedTick | tick | evTmrtick | evPinirq | evPinlvl | evHwok | evReset => cases command
  | _ => exact ⟨_, rfl⟩

/-- An illegal command, too, is answered by one response word (R61, R63). -/
theorem stimulate_out_of_command (h : stimulate x s = .next t) (command : x.port = .command) :
    ∃ w, t.out = s.out ++ [.response w] := by
  obtain ⟨i, port, effect⟩ | ⟨-, rfl⟩ := stimulate_effect h
  · exact effect.out_of_command (port.trans command)
  · exact ⟨_, rfl⟩

theorem stimulate_out_of_event (h : stimulate x s = .next t) (event : x.port = .event) :
    ∃ ws : List Word, t.out = s.out ++ ws.map Output.notification := by
  obtain ⟨i, port, effect⟩ | ⟨command, -⟩ := stimulate_effect h
  · obtain ⟨words, out, only⟩ := effect.notifiesOnly (port.trans event)
    obtain ⟨ws, rfl, -⟩ := only.exists_words
    exact ⟨ws, out⟩
  · cases command.symm.trans event

/-- One response more on the streams: one word on the first, none on the second. -/
theorem streams_of_response {w : Word} (out : t.out = s.out ++ [.response w]) :
    responses t = responses s ++ [w] ∧ notifications t = notifications s := by
  simp [responses, notifications, out, Output.response?, Output.notification?]

/-- NOTIFY words more on the streams: none on the first, those words on the second. -/
theorem streams_of_notifications {ws : List Word} (out : t.out = s.out ++ ws.map Output.notification) :
    responses t = responses s ∧ notifications t = notifications s ++ ws := by
  simp [responses, notifications, out, Output.response?, Output.notification?, Function.comp_def]

end Streams

/-- Settles O58: the last step of the run by its stimulus's port, a command's one response or an event's NOTIFY words. -/
theorem observationsOnlyGrow : Obligations.ObservationsOnlyGrow := by
  intro s xs states extent n run steps
  have next := run.next n (steps n le_rfl)
  refine ⟨(observe_exported_succ states n).symm, ?_⟩
  cases port : (xs n).port with
  | command =>
    obtain ⟨w, out⟩ := stimulate_out_of_command next port
    obtain ⟨response, noNotify⟩ := streams_of_response out
    exact ⟨⟨[w], response, rfl⟩, [], noNotify.trans (List.append_nil _).symm, fun _ => rfl⟩
  | event =>
    obtain ⟨ws, out⟩ := stimulate_out_of_event next port
    obtain ⟨noResponse, notified⟩ := streams_of_notifications out
    exact ⟨⟨[], noResponse.trans (List.append_nil _).symm, rfl⟩, ws, notified, nofun⟩

end Sys2Proof.Proofs
